-- ==== Sys2Proof/Word.lean ====
section
/-! DEFINITION. The words of the block: the 16-bit words of its three formats, and the digit codes. -/

namespace Sys2Proof

/-- One word of format E, U or P: 16 bits, bit 0 least significant (30_encoding R70, 00_scope R12). -/
abbrev Word := BitVec 16

/-- A level on each of the seven segment lines, bit `i` for `SEG[i]` (00_scope R8, 10_state R38). -/
abbrev SegMask := BitVec 7

/-- "an integer `0..16`": 0 to 9 are decimal digits, 10 is blank, 11 to 16 are gauge codes (00_scope R16).
It fits the 5 bits of 10_state R35; no larger code can be pending (20_memory R51; notes/assumptions/11.md). -/
abbrev DigitCode := Fin 17

/-- The blank code, which is also the empty gauge (00_scope R16). -/
abbrev blankCode : DigitCode := 10

end Sys2Proof
end

