-- ==== Sys2Proof/Syntax.lean ====
section
/-! DEFINITION. The instructions of the block: the commands of format E and the micro-operations of format U, one
constructor per row of spec/opcode_table.json, and the names their operands use. -/

namespace Sys2Proof

/-- The two ports that take instruction words: the command port takes format E, the mux port format U
(30_encoding R70). -/
inductive Port where
  | command
  | mux
  deriving DecidableEq, Repr

/-- A logical position of the mux, one per tube (00_scope R16). -/
inductive Slot where
  | slot0
  | slot1
  deriving DecidableEq, Repr

/-- Which tube's decimal point is lit (10_state R34). -/
inductive DotSlot where
  | off
  | digit1
  | digit2
  deriving DecidableEq, Repr

/-- The three fault codes (60_exceptions R202). -/
inductive FaultCode where
  /-- Raised by decoding: the opcode is reserved (30_encoding R81, R82). Safe. -/
  | illegalOpcode
  /-- Raised by decoding: a reserved bit is 1 (30_encoding R75, R76). Safe. -/
  | reservedBits
  /-- Raised by SET_TIME and SET_DIGIT: an operand is outside its legal range (42_requests R176, 40_mux R102).
  Safe. -/
  | operandRange
  deriving DecidableEq, Repr

/-- An instruction: a command or a micro-operation, with its operand fields as the word holds them
(30_encoding R71, R76). -/
inductive Instr where
  | nop
  | tick
  | showTime
  | showCharge
  | showEmpty
  | showTimeAndCharge
  | setTime (hh : BitVec 5) (mm : BitVec 6)
  | getTime
  | setChargeLevel (v : BitVec 8)
  | isDisplayOn
  | setDigit (slot : Slot) (code : BitVec 5) (dot : BitVec 2)
  | update
  | off
  | busEnable
  deriving DecidableEq, Repr

/-- A micro-operation as the engine emits it, its operands legal by their types (41_tick R145). -/
inductive MicroOp where
  | setDigit (slot : Slot) (code : DigitCode) (dot : DotSlot)
  | update
  | off
  | busEnable
  deriving DecidableEq, Repr

end Sys2Proof
end

