-- ==== Sys2Proof/WellFormed.lean ====
section
/-! DEFINITION. Which instructions have every operand in its legal range. -/

namespace Sys2Proof

/-- The operand ranges of SET_TIME and SET_DIGIT, the third check of 30_encoding R85 (R73, R78). An instruction
that fails it is raised as OPERAND_RANGE by its own meaning (42_requests R176, 40_mux R102). -/
def Instr.wf : Instr → Bool
  | .nop => true
  | .tick => true
  | .showTime => true
  | .showCharge => true
  | .showEmpty => true
  | .showTimeAndCharge => true
  | .setTime hh mm => decide (hh.toNat ≤ 23) && decide (mm.toNat ≤ 59)
  | .getTime => true
  | .setChargeLevel _ => true
  | .isDisplayOn => true
  | .setDigit _ code dot => decide (code.toNat ≤ 16) && decide (dot.toNat ≤ 2)
  | .update => true
  | .off => true
  | .busEnable => true

end Sys2Proof
end

