-- ==== Sys2Proof/Decode.lean ====
section
/-! DEFINITION. Decoding and encoding of the words of formats E and U (30_encoding), and the opcode maps. -/

namespace Sys2Proof

/-- `w[15:12]`, which alone decides how the rest of a word is read (30_encoding R70). -/
def opcodeField (w : Word) : BitVec 4 := w.extractLsb' 12 4

/-- The second check of 30_encoding R85: a word with a 1 in a reserved bit is refused with RESERVED_BITS. -/
def checkReserved (reserved w : Word) (i : Instr) : Except FaultCode Instr :=
  if w &&& reserved = 0 then .ok i else .error .reservedBits

/-- The number of a slot's bit (30_encoding R78). -/
def slotOfBit (b : Bool) : Slot := if b then .slot1 else .slot0

/-- `slot` as the bit `u[8]` (30_encoding R78). -/
def bitOfSlot : Slot → BitVec 1
  | .slot0 => 0
  | .slot1 => 1

/-- Format E: the opcode map of 30_encoding R72 and the fields of R71. -/
def decodeCommand (w : Word) : Except FaultCode Instr :=
  match (opcodeField w).toNat with
  | 0x0 => checkReserved 0x0FFF w .nop
  | 0x1 => checkReserved 0x0FFF w .tick
  | 0x2 => checkReserved 0x0FFF w .showTime
  | 0x3 => checkReserved 0x0FFF w .showCharge
  | 0x4 => checkReserved 0x0FFF w .showEmpty
  | 0x5 => checkReserved 0x0FFF w .showTimeAndCharge
  | 0x6 => checkReserved 0x0800 w (.setTime (w.extractLsb' 6 5) (w.extractLsb' 0 6))
  | 0x7 => checkReserved 0x0FFF w .getTime
  | 0x8 => checkReserved 0x0F00 w (.setChargeLevel (w.extractLsb' 0 8))
  | 0x9 => checkReserved 0x0FFF w .isDisplayOn
  | _ => .error .illegalOpcode

/-- Format U: the opcode map of 30_encoding R77 and the fields of R76. -/
def decodeMux (u : Word) : Except FaultCode Instr :=
  match (opcodeField u).toNat with
  | 0x1 => checkReserved 0x0E80 u
      (.setDigit (slotOfBit (u.getLsbD 8)) (u.extractLsb' 0 5) (u.extractLsb' 5 2))
  | 0x2 => checkReserved 0x0FFF u .update
  | 0x3 => checkReserved 0x0FFF u .off
  | 0x4 => checkReserved 0x0FFF u .busEnable
  | _ => .error .illegalOpcode

/-- The first two checks of 30_encoding R85, in order, and the fields of the word. The third check, of the operands'
ranges, is made by the meanings of SET_TIME and SET_DIGIT, as 42_requests R176 and 40_mux R102 write it
(notes/assumptions/22.md). -/
def decode : Port → Word → Except FaultCode Instr
  | .command, w => decodeCommand w
  | .mux, u => decodeMux u

/-- The port whose format an instruction's words have (30_encoding R72, R77). -/
def Instr.port : Instr → Port
  | .nop => .command
  | .tick => .command
  | .showTime => .command
  | .showCharge => .command
  | .showEmpty => .command
  | .showTimeAndCharge => .command
  | .setTime _ _ => .command
  | .getTime => .command
  | .setChargeLevel _ => .command
  | .isDisplayOn => .command
  | .setDigit _ _ _ => .mux
  | .update => .mux
  | .off => .mux
  | .busEnable => .mux

/-- The word that spells an instruction on its port, its fields joined as 30_encoding R71 and R76 place them. -/
def encode : Instr → Word
  | .nop => 0x0000
  | .tick => 0x1000
  | .showTime => 0x2000
  | .showCharge => 0x3000
  | .showEmpty => 0x4000
  | .showTimeAndCharge => 0x5000
  | .setTime hh mm => 0x6#4 ++ 0#1 ++ hh ++ mm
  | .getTime => 0x7000
  | .setChargeLevel v => 0x8#4 ++ 0#4 ++ v
  | .isDisplayOn => 0x9000
  | .setDigit slot code dot => 0x1#4 ++ 0#3 ++ bitOfSlot slot ++ 0#1 ++ dot ++ code
  | .update => 0x2000
  | .off => 0x3000
  | .busEnable => 0x4000

/-- One row of an opcode map: a word `w` spells the row's instruction when `w & mask == match`
(30_encoding R72, R77). -/
structure OpcodeRow where
  port : Port
  mnemonic : String
  pattern : Word
  mask : Word
  deriving DecidableEq, Repr

/-- The rows of both opcode maps, in the table's order (30_encoding R72, R77). -/
def opcodeRows : List OpcodeRow :=
  [⟨.command, "NOP", 0x0000, 0xFFFF⟩,
   ⟨.command, "TICK", 0x1000, 0xFFFF⟩,
   ⟨.command, "SHOW_TIME", 0x2000, 0xFFFF⟩,
   ⟨.command, "SHOW_CHARGE", 0x3000, 0xFFFF⟩,
   ⟨.command, "SHOW_EMPTY", 0x4000, 0xFFFF⟩,
   ⟨.command, "SHOW_TIME_AND_CHARGE", 0x5000, 0xFFFF⟩,
   ⟨.command, "SET_TIME", 0x6000, 0xF800⟩,
   ⟨.command, "GET_TIME", 0x7000, 0xFFFF⟩,
   ⟨.command, "SET_CHARGE_LEVEL", 0x8000, 0xFF00⟩,
   ⟨.command, "IS_DISPLAY_ON", 0x9000, 0xFFFF⟩,
   ⟨.mux, "SET_DIGIT", 0x1000, 0xFE80⟩,
   ⟨.mux, "UPDATE", 0x2000, 0xFFFF⟩,
   ⟨.mux, "OFF", 0x3000, 0xFFFF⟩,
   ⟨.mux, "BUS_ENABLE", 0x4000, 0xFFFF⟩]

/-- Whether a word on a port spells a row's instruction. -/
def OpcodeRow.spells (r : OpcodeRow) (p : Port) (w : Word) : Bool :=
  r.port == p && w &&& r.mask == r.pattern

/-- The mnemonic of an instruction (30_encoding R72, R77, R86). -/
def Instr.mnemonic : Instr → String
  | .nop => "NOP"
  | .tick => "TICK"
  | .showTime => "SHOW_TIME"
  | .showCharge => "SHOW_CHARGE"
  | .showEmpty => "SHOW_EMPTY"
  | .showTimeAndCharge => "SHOW_TIME_AND_CHARGE"
  | .setTime _ _ => "SET_TIME"
  | .getTime => "GET_TIME"
  | .setChargeLevel _ => "SET_CHARGE_LEVEL"
  | .isDisplayOn => "IS_DISPLAY_ON"
  | .setDigit _ _ _ => "SET_DIGIT"
  | .update => "UPDATE"
  | .off => "OFF"
  | .busEnable => "BUS_ENABLE"

/-- The 16-bit word among the low `nbits` bits of `w`. No byte order arises: a port carries a whole word
(20_memory R53). -/
def tableWord (nbits w : Nat) : Word := BitVec.ofNat 16 (w % 2 ^ nbits)

/-- The port a bare word is read on where no port is given: the command port if it spells a command, else the mux
port if it spells a micro-operation, else the command port. DESIGN CHOICE (safe): the machine's own step never
chooses, every event names its port (notes/assumptions/2.md). -/
def tablePort (w : Word) : Port :=
  match decodeCommand w, decodeMux w with
  | .ok _, _ => .command
  | .error _, .ok _ => .mux
  | .error _, .error _ => .command

/-- The instruction the decoder reads from a table row's word, on the port of `tablePort`. -/
def decodeTableWord (nbits w : Nat) : Option Instr :=
  (decode (tablePort (tableWord nbits w)) (tableWord nbits w)).toOption

end Sys2Proof
end

