-- ==== Sys2Proof/Config.lean ====
section
/-! DEFINITION. The implementation parameters of 00_scope section 3, and the values State.reset gives them. -/

namespace Sys2Proof

/-- The parameters the host fixes before reset (70_reset_and_hazards R232). They are the arguments of the spec's
step function (10_state R46, 00_scope R15); State carries them in one field that no step writes
(notes/assumptions/4.md). -/
structure Params where
  /-- `TPS`, ticks per second; the length of a display quarter in TICKs (R6). -/
  tps : Nat
  /-- `SEC_PERIOD`, the number of TICKs between second boundaries (R7). -/
  secPeriod : Nat
  /-- `SEG_TABLE`, the contents of the segment ROM (R8, 20_memory R50). -/
  segTable : Vector SegMask 17
  /-- `RESET_HOURS` (R9). -/
  resetHours : BitVec 5
  /-- `RESET_MINUTES` (R9). -/
  resetMinutes : BitVec 6
  /-- `RESET_SECONDS` (R9). -/
  resetSeconds : BitVec 6
  /-- `UPDATE_TOGGLE_FIRST` (R10). -/
  updateToggleFirst : Bool
  deriving DecidableEq, Repr

/-- The legal values of the parameters (00_scope R6 to R10). -/
abbrev Params.Wf (p : Params) : Prop :=
  2 ≤ p.tps ∧ (p.secPeriod = p.tps - 1 ∨ p.secPeriod = p.tps) ∧ p.segTable.get blankCode = 0 ∧
    p.resetHours.toNat ≤ 23 ∧ p.resetMinutes.toNat ≤ 59 ∧ p.resetSeconds.toNat ≤ 59

/-- The length of a full display cycle in TICKs, `4*TPS` (00_scope R6). -/
abbrev Params.cycle (p : Params) : Nat := 4 * p.tps

/-- `CT_W`, the width of `current_tick` (00_scope R11). -/
def Params.tickWidth (p : Params) : Nat := Nat.clog 2 (p.tps + 1)

/-- `DC_W`, the width of `display_counter` (00_scope R11). -/
def Params.counterWidth (p : Params) : Nat := Nat.clog 2 (4 * p.tps + 1)

/-- FREE VALUE. The masks of the segment ROM that the source does not give (00_scope R8, 91_not_in_source N1;
notes/assumptions/5.md). -/
opaque Config.segMask : DigitCode → SegMask

/-- `SEG_TABLE` as far as the spec fixes it: entry 10 is all off, every other entry is free (00_scope R8). -/
def Config.segTable : Vector SegMask 17 :=
  #v[Config.segMask 0, Config.segMask 1, Config.segMask 2, Config.segMask 3, Config.segMask 4,
    Config.segMask 5, Config.segMask 6, Config.segMask 7, Config.segMask 8, Config.segMask 9, 0,
    Config.segMask 11, Config.segMask 12, Config.segMask 13, Config.segMask 14, Config.segMask 15,
    Config.segMask 16]

/-- The parameters of State.reset: the spec's defaults (R7, R9, R10), and the reference build's 200 Hz for `TPS`,
which has no default. DESIGN CHOICE (unsafe): `TPS`; no statement rests on it (notes/assumptions/4.md). -/
def Config.params : Params where
  tps := 200
  secPeriod := 199
  segTable := Config.segTable
  resetHours := 0
  resetMinutes := 0
  resetSeconds := 0
  updateToggleFirst := true

end Sys2Proof
end

