-- ==== Sys2Proof/Machine/State.lean ====
section
/-! DEFINITION. The state of the block as plain data, its events, its fault and refusal reasons, and reset. -/

namespace Sys2Proof.Machine

/-- The content class being shown or staged to be shown (10_state R33). -/
inductive DisplayMode where
  | idle
  | time
  | charge
  | both
  | emptyBattery
  deriving DecidableEq, Repr

/-- One event of the block (00_scope R5). The host presents the first three; the last stands for a word given to a
mux modelled on its own (30_encoding R82, R88; notes/assumptions/3.md). -/
inductive Event where
  /-- A format E word taken from the command port. -/
  | command (w : Word)
  /-- A pulse on the tick input (60_exceptions R206). -/
  | tick
  /-- The reset event (70_reset_and_hazards R230). -/
  | reset
  /-- A format U word on the mux port of a standalone mux; no host can present it (30_encoding R88). -/
  | muxWord (u : Word)
  deriving DecidableEq, Repr

/-- A recorded fault: `(code, word)` (60_exceptions R201). -/
structure FaultRecord where
  code : FaultCode
  word : Word
  deriving DecidableEq, Repr

/-- Why a step stops. -/
inductive Fault where
  /-- Raised by `step` in a state that has recorded a fault: "No step is defined from a faulted state"
  (60_exceptions R204). Safe: the model stops where the spec defines no step. -/
  | halted (record : FaultRecord)
  deriving DecidableEq, Repr

/-- Why the model has no meaning for an instruction. -/
inductive Refusal where
  /-- Raised by `exec` for an instruction without a meaning; no arm raises it, every instruction has one. Safe. -/
  | notModelled (mnemonic : String)
  deriving DecidableEq, Repr

/-- The state of the block: 10_state sections 2 to 5, then the model's own fields. -/
structure State where
  /-- The parameters, written by no step (00_scope R6 to R10; MODEL's own field, notes/assumptions/4.md). -/
  params : Params
  /-- 10_state R23. -/
  hours : BitVec 5
  /-- 10_state R24. -/
  minutes : BitVec 6
  /-- 10_state R25. -/
  seconds : BitVec 6
  /-- `current_tick`, a count (10_state R27, notes/assumptions/12.md). -/
  currentTick : Nat
  /-- `display_status` (10_state R28). -/
  displayStatus : DisplayMode
  /-- `display_new_status` (10_state R29). -/
  displayNewStatus : DisplayMode
  /-- The block's one status flag (10_state R30, R48). -/
  displaying : Bool
  /-- `display_counter`, a count (10_state R31, notes/assumptions/12.md). -/
  displayCounter : Nat
  /-- `charge_level` (10_state R32). -/
  chargeLevel : BitVec 8
  /-- `pend_code[0]` (10_state R35). -/
  pendCode0 : DigitCode
  /-- `pend_code[1]` (10_state R35). -/
  pendCode1 : DigitCode
  /-- `pend_dot[0]` (10_state R36). -/
  pendDot0 : DotSlot
  /-- `pend_dot[1]` (10_state R36). -/
  pendDot1 : DotSlot
  /-- The one-bit alternator, as the slot number it holds (10_state R37). -/
  alt : Slot
  /-- `SEG[6:0]` (10_state R38). -/
  seg : SegMask
  /-- `AN[1:0]` (10_state R39). -/
  an : BitVec 2
  /-- `DP` (10_state R40). -/
  dp : Bool
  /-- `BUS_EN` (10_state R41). -/
  busEn : Bool
  /-- `fault` (10_state R43, 60_exceptions R201). -/
  fault : Option FaultRecord
  /-- The events the host has presented and the block has not taken, oldest first (00_scope R5; MODEL's own field,
  notes/assumptions/1.md). -/
  events : List Event
  /-- The word on the response port from the last event taken (10_state R44; MODEL's own field,
  notes/assumptions/9.md). -/
  response : Option Word
  /-- The micro-operations the engine emitted in the last event taken, in order (30_encoding R88; MODEL's own field,
  notes/assumptions/9.md). -/
  emitted : List MicroOp
  deriving DecidableEq, Repr

/-- Every state element at its reset value (10_state R45) under given parameters (70_reset_and_hazards R230). -/
def State.resetOf (p : Params) : State where
  params := p
  hours := p.resetHours
  minutes := p.resetMinutes
  seconds := p.resetSeconds
  currentTick := 0
  displayStatus := .idle
  displayNewStatus := .idle
  displaying := false
  displayCounter := p.cycle
  chargeLevel := 0
  pendCode0 := blankCode
  pendCode1 := blankCode
  pendDot0 := .off
  pendDot1 := .off
  alt := .slot0
  seg := 0
  an := 0
  dp := false
  busEn := false
  fault := none
  events := []
  response := none
  emitted := []

/-- The block right after reset, under the parameters of Config. -/
def State.reset : State := State.resetOf Config.params

end Sys2Proof.Machine
end

