-- ==== Sys2Proof/Machine/Operands.lean ====
section
/-! DEFINITION. The operand forms: digit codes, dots, slots, modes, the gauge value and the response words. -/

namespace Sys2Proof.Machine

/-- The 5-bit operand `code` as a DigitCode; none for 17 to 31 (30_encoding R78). -/
def digitCodeOf (code : BitVec 5) : Option DigitCode :=
  if h : code.toNat < 17 then some ⟨code.toNat, h⟩ else none

/-- The 2-bit operand `dot` as a DotSlot; none for 3 (10_state R34, 30_encoding R78). -/
def dotSlotOf (dot : BitVec 2) : Option DotSlot :=
  match dot.toNat with
  | 0 => some .off
  | 1 => some .digit1
  | 2 => some .digit2
  | _ => none

/-- The 2-bit code of a DotSlot (10_state R34). -/
def dotCode : DotSlot → BitVec 2
  | .off => 0
  | .digit1 => 1
  | .digit2 => 2

/-- The 5-bit code of a DigitCode (10_state R35). -/
def digitBits (c : DigitCode) : BitVec 5 := BitVec.ofNat 5 c.val

/-- The 3-bit code of a DisplayMode (10_state R33). -/
def modeCode : DisplayMode → BitVec 3
  | .idle => 0
  | .time => 1
  | .charge => 2
  | .both => 3
  | .emptyBattery => 4

/-- The number of a fault code (60_exceptions R202). -/
def faultNumber : FaultCode → Nat
  | .illegalOpcode => 1
  | .reservedBits => 2
  | .operandRange => 3

/-- The other slot: `not alt` on the one-bit alternator (40_mux R103). -/
def otherSlot : Slot → Slot
  | .slot0 => .slot1
  | .slot1 => .slot0

/-- `DotOf(s)`, the DotSlot that names slot `s` (40_mux R101). -/
def dotOf : Slot → DotSlot
  | .slot0 => .digit1
  | .slot1 => .digit2

/-- `AN[s]` as a level on the two anode lines (40_mux R101, 10_state R39). -/
def anodeOf : Slot → BitVec 2
  | .slot0 => 0b01
  | .slot1 => 0b10

/-- `n / 10` of a value of 6 bits (41_tick R139, R140, R145). -/
def tensOf (n : BitVec 6) : DigitCode := ⟨n.toNat / 10, by have := n.isLt; omega⟩

/-- `n % 10` of a value of 6 bits (41_tick R139, R140, R145). -/
def unitsOf (n : BitVec 6) : DigitCode := ⟨n.toNat % 10, by omega⟩

/-- `cv = min(16, 10 + charge_level/16)`, step 4 of TICK (41_tick R137). -/
def gaugeOf (v : BitVec 8) : DigitCode := ⟨min 16 (10 + v.toNat / 16), by omega⟩

/-- Whether SET_TIME takes its operands (42_requests R176, 30_encoding R73). -/
def timeInRange (hh : BitVec 5) (mm : BitVec 6) : Bool :=
  decide (hh.toNat ≤ 23) && decide (mm.toNat ≤ 59)

/-- The format P word of GET_TIME, `{0b00000, hours[4:0], minutes[5:0]}` (30_encoding R79). -/
def timeWord (hours : BitVec 5) (minutes : BitVec 6) : Word := 0#5 ++ hours ++ minutes

/-- The format P word of IS_DISPLAY_ON, `zext_16(displaying)` (30_encoding R80). -/
def flagWord (b : Bool) : Word := (BitVec.ofBool b).setWidth 16

/-- The mux instruction that a micro-operation is, its operands as the fields of format U hold them
(30_encoding R76). -/
def instrOf : MicroOp → Instr
  | .setDigit slot code dot => .setDigit slot (digitBits code) (dotCode dot)
  | .update => .update
  | .off => .off
  | .busEnable => .busEnable

end Sys2Proof.Machine
end

