-- ==== Sys2Proof/Machine/Ops.lean ====
section
/-! DEFINITION. The operations the meanings share: raising a fault, responding, the segment ROM, the mux and its
output lines, and emitting micro-operations. -/

namespace Sys2Proof.Machine

/-- `raise Fault(code, word)`: the fault is recorded and nothing else changes (00_scope R14, 60_exceptions R201).
It is the block's only form of taking an exception; there is no return from one (R207, R208). -/
def State.raise (s : State) (code : FaultCode) (word : Word) : State :=
  { s with fault := some ⟨code, word⟩ }

/-- `respond v` (00_scope R14). -/
def State.respond (s : State) (v : Word) : State := { s with response := some v }

/-- `SegRom(c)`, the block's only memory read (20_memory R50, 40_mux R100). -/
def State.segRom (s : State) (c : DigitCode) : SegMask := s.params.segTable.get c

/-- `pend_code[slot]` (00_scope R14). -/
def State.pendCode (s : State) : Slot → DigitCode
  | .slot0 => s.pendCode0
  | .slot1 => s.pendCode1

/-- `pend_dot[slot]` (00_scope R14). -/
def State.pendDot (s : State) : Slot → DotSlot
  | .slot0 => s.pendDot0
  | .slot1 => s.pendDot1

/-- SET_DIGIT with legal operands: the pending value and dot of one slot (40_mux R102). -/
def State.setDigit (s : State) (slot : Slot) (code : DigitCode) (dot : DotSlot) : State :=
  match slot with
  | .slot0 => { s with pendCode0 := code, pendDot0 := dot }
  | .slot1 => { s with pendCode1 := code, pendDot1 := dot }

/-- `alt <- not alt` (40_mux R103). -/
def State.toggleAlt (s : State) : State := { s with alt := otherSlot s.alt }

/-- The slot an UPDATE renders, chosen after or before the toggle (40_mux R103, 00_scope R10). -/
def State.nextSlot (s : State) : Slot :=
  if s.params.updateToggleFirst then otherSlot s.alt else s.alt

/-- Phase 1 of UPDATE: both anodes and the dot line low (40_mux R103, R104). -/
def State.driveLow (s : State) : State := { s with an := 0, dp := false }

/-- Phase 2 of UPDATE: the segment lines from the mask of the slot's pending code (40_mux R103, R104). -/
def State.driveSegments (s : State) (slot : Slot) : State :=
  { s with seg := s.segRom (s.pendCode slot) }

/-- Phase 3 of UPDATE: the slot's anode high, and the dot line high iff the slot's DotSlot names it
(40_mux R103, R104). -/
def State.driveSlot (s : State) (slot : Slot) : State :=
  { s with an := s.an ||| anodeOf slot, dp := s.pendDot slot == dotOf slot }

/-- The three phases of UPDATE for one slot (40_mux R104). -/
def State.render (s : State) (slot : Slot) : State :=
  ((s.driveLow).driveSegments slot).driveSlot slot

/-- UPDATE: the alternator toggles and one slot is rendered (40_mux R103). -/
def State.updateMux (s : State) : State := s.toggleAlt.render s.nextSlot

/-- OFF: all outputs low (40_mux R105). -/
def State.outputsOff (s : State) : State := { s with seg := 0, an := 0, dp := false, busEn := false }

/-- BUS_ENABLE: the bus-enable line high (40_mux R106). -/
def State.enableBus (s : State) : State := { s with busEn := true }

/-- The mux rule of a micro-operation (00_scope R14, 40_mux R102 to R106). -/
def State.applyOp (s : State) : MicroOp → State
  | .setDigit slot code dot => s.setDigit slot code dot
  | .update => s.updateMux
  | .off => s.outputsOff
  | .busEnable => s.enableBus

/-- `emit uop`: the micro-operation acts on the mux at once, and joins the trace of the event
(00_scope R14, 30_encoding R88). -/
def State.emit (s : State) (u : MicroOp) : State :=
  { s.applyOp u with emitted := s.emitted ++ [u] }

/-- The micro-operations of one event, in program order (20_memory R60). -/
def State.emitAll (s : State) : List MicroOp → State
  | [] => s
  | u :: us => (s.emit u).emitAll us

/-- The ports of a new event: no response and no micro-operation yet (10_state R44). -/
def State.clearPorts (s : State) : State := { s with response := none, emitted := [] }

/-- The reset event: every state element at its reset value (70_reset_and_hazards R230, 10_state R45). The
parameters, and the events the host has yet to present, are not the block's state. -/
def State.resetEvent (s : State) : State := { State.resetOf s.params with events := s.events }

/-- A tick pulse and a command word that arrive together, TICK first (60_exceptions R206). -/
def arrivals (pulse : Bool) (word : Option Word) : List Event :=
  (if pulse then [.tick] else []) ++ (word.map Event.command).toList

/-- What the host presents at one moment joins the events after all it presented before (00_scope R5). -/
def State.present (s : State) (pulse : Bool) (word : Option Word) : State :=
  { s with events := s.events ++ arrivals pulse word }

end Sys2Proof.Machine
end

