-- ==== Sys2Proof/Machine/Accessors.lean ====
section
/-! DEFINITION. The accessors (42_requests section 3). -/

namespace Sys2Proof.Machine

/-- SET_TIME: hours and minutes, seconds and the tick phase untouched; an operand out of range raises OPERAND_RANGE
with the command's word (42_requests R176, notes/assumptions/28.md). -/
def execSetTime (hh : BitVec 5) (mm : BitVec 6) (s : State) : Host.Outcome State Fault Refusal :=
  if timeInRange hh mm then .next { s with hours := hh, minutes := mm }
  else .next (s.raise .operandRange (encode (.setTime hh mm)))

/-- GET_TIME (42_requests R177). -/
def execGetTime (s : State) : Host.Outcome State Fault Refusal :=
  .next (s.respond (timeWord s.hours s.minutes))

/-- SET_CHARGE_LEVEL: every byte is legal (42_requests R178). -/
def execSetChargeLevel (v : BitVec 8) (s : State) : Host.Outcome State Fault Refusal :=
  .next { s with chargeLevel := v }

/-- IS_DISPLAY_ON (42_requests R179). -/
def execIsDisplayOn (s : State) : Host.Outcome State Fault Refusal :=
  .next (s.respond (flagWord s.displaying))

end Sys2Proof.Machine
end

