-- ==== Sys2Proof/Machine/Mux.lean ====
section
/-! DEFINITION. The micro-operations as instructions of a standalone mux (40_mux section 2). -/

namespace Sys2Proof.Machine

/-- SET_DIGIT: a code above 16 or a dot of 3 raises OPERAND_RANGE with the word (40_mux R102). -/
def execSetDigit (slot : Slot) (code : BitVec 5) (dot : BitVec 2) (s : State) :
    Host.Outcome State Fault Refusal :=
  match digitCodeOf code, dotSlotOf dot with
  | some c, some d => .next (s.setDigit slot c d)
  | _, _ => .next (s.raise .operandRange (encode (.setDigit slot code dot)))

/-- UPDATE (40_mux R103). -/
def execUpdate (s : State) : Host.Outcome State Fault Refusal := .next s.updateMux

/-- OFF (40_mux R105). -/
def execOff (s : State) : Host.Outcome State Fault Refusal := .next s.outputsOff

/-- BUS_ENABLE (40_mux R106). -/
def execBusEnable (s : State) : Host.Outcome State Fault Refusal := .next s.enableBus

end Sys2Proof.Machine
end

