-- ==== Sys2Proof/Machine/Requests.lean ====
section
/-! DEFINITION. The idle word and the display requests (42_requests sections 1 and 2). -/

namespace Sys2Proof.Machine

/-- A display request: the mode is staged for the next TICK, replacing one still pending (42_requests R171, R175). -/
def State.request (s : State) (mode : DisplayMode) : State := { s with displayNewStatus := mode }

/-- NOP: no effect (42_requests R170). -/
def execNop (s : State) : Host.Outcome State Fault Refusal := .next s

/-- SHOW_TIME (42_requests R171). -/
def execShowTime (s : State) : Host.Outcome State Fault Refusal := .next (s.request .time)

/-- SHOW_CHARGE (42_requests R172). -/
def execShowCharge (s : State) : Host.Outcome State Fault Refusal := .next (s.request .charge)

/-- SHOW_EMPTY (42_requests R173). -/
def execShowEmpty (s : State) : Host.Outcome State Fault Refusal := .next (s.request .emptyBattery)

/-- SHOW_TIME_AND_CHARGE (42_requests R174). -/
def execShowTimeAndCharge (s : State) : Host.Outcome State Fault Refusal := .next (s.request .both)

end Sys2Proof.Machine
end

