-- ==== Sys2Proof/Machine/Flags.lean ====
section
/-! DEFINITION. The block's one status flag, "displaying", and the display counter it is computed with. -/

namespace Sys2Proof.Machine

/-- Step 3 of TICK: one test of the counter, made before the increment (41_tick R135). -/
def State.countDisplay (s : State) : State :=
  if s.displayCounter < s.params.cycle then
    { s with displayCounter := s.displayCounter + 1, displaying := true }
  else
    { s with displaying := false }

end Sys2Proof.Machine
end

