-- ==== Sys2Proof/Machine/Tick.lean ====
section
/-! DEFINITION. TICK and the display-mode state machine (41_tick). -/

namespace Sys2Proof.Machine

/-- `second_passed()` (41_tick R132). -/
def State.secondPassed (s : State) : State :=
  if s.seconds + 1 = 60 then
    if s.minutes + 1 = 60 then
      { s with seconds := 0, minutes := 0, hours := if s.hours + 1 = 24 then 0 else s.hours + 1 }
    else { s with seconds := 0, minutes := s.minutes + 1 }
  else { s with seconds := s.seconds + 1 }

/-- Step 1: the tick counter and the second boundary (41_tick R131). -/
def State.countTick (s : State) : State :=
  if s.currentTick + 1 = s.params.secPeriod then { s.secondPassed with currentTick := 0 }
  else { s with currentTick := s.currentTick + 1 }

/-- Step 2: a pending request is latched and restarts the cycle (41_tick R134). -/
def State.latchRequest (s : State) : State :=
  if s.displayNewStatus = .idle then s
  else { s with displayStatus := s.displayNewStatus, displayCounter := 0, displayNewStatus := .idle }

/-- The four quarters of a display cycle (00_scope R16). -/
inductive Quarter where
  | hours
  | minutes
  | charge
  | off
  deriving DecidableEq, Repr

/-- The quarter of a display counter after step 3 (41_tick R138). -/
def quarterOf (tps c : Nat) : Quarter :=
  if 0 < c ∧ c ≤ tps then .hours
  else if tps < c ∧ c ≤ 2 * tps then .minutes
  else if 2 * tps < c ∧ c ≤ 3 * tps then .charge
  else .off

/-- What quarters 1 and 2 emit: a value's digits in modes Time and Both, blanks in EmptyBattery, the pending content
in Charge and Idle (41_tick R139, R140, R143). -/
def digitOps (mode : DisplayMode) (value : BitVec 6) (dot : DotSlot) : List MicroOp :=
  match mode with
  | .time | .both =>
    [.busEnable, .setDigit .slot0 (tensOf value) dot, .setDigit .slot1 (unitsOf value) dot, .update]
  | .emptyBattery =>
    [.busEnable, .setDigit .slot0 blankCode dot, .setDigit .slot1 blankCode dot, .update]
  | .idle | .charge => [.busEnable, .update]

/-- What quarter 3 emits: the gauge in mode Both, nothing in any other (41_tick R141, R144). -/
def gaugeOps (mode : DisplayMode) (cv : DigitCode) : List MicroOp :=
  match mode with
  | .both => [.busEnable, .setDigit .slot0 cv .off, .setDigit .slot1 cv .off, .update]
  | .idle | .time | .charge | .emptyBattery => []

/-- The micro-operations of a quarter, in order (41_tick R138 to R142). -/
def quarterOps (q : Quarter) (mode : DisplayMode) (hours : BitVec 5) (minutes : BitVec 6) (cv : DigitCode) :
    List MicroOp :=
  match q with
  | .hours => digitOps mode (hours.setWidth 6) .digit1
  | .minutes => digitOps mode minutes .digit2
  | .charge => gaugeOps mode cv
  | .off => [.off]

/-- The mode a quarter leaves: quarter 4 resets it to Idle (41_tick R142). -/
def modeAfter (q : Quarter) (mode : DisplayMode) : DisplayMode :=
  match q with
  | .hours | .minutes | .charge => mode
  | .off => .idle

/-- The quarter a state is in. -/
def State.quarter (s : State) : Quarter := quarterOf s.params.tps s.displayCounter

/-- Steps 4 and 5: the gauge value and the slice dispatch (41_tick R137, R138). -/
def State.dispatchSlice (s : State) : State :=
  { s.emitAll (quarterOps s.quarter s.displayStatus s.hours s.minutes (gaugeOf s.chargeLevel)) with
    displayStatus := modeAfter s.quarter s.displayStatus }

/-- The five steps of TICK, each seeing what the one before it wrote (41_tick R130). -/
def State.tick (s : State) : State := s.countTick.latchRequest.countDisplay.dispatchSlice

/-- TICK (41_tick R130). -/
def execTick (s : State) : Host.Outcome State Fault Refusal := .next s.tick

end Sys2Proof.Machine
end

