-- ==== Sys2Proof/Machine/Dispatch.lean ====
section
/-! DEFINITION. One arm per instruction, each one call of its meaning. -/

namespace Sys2Proof.Machine

/-- The effect of an instruction on the block; `step` calls it in states with no fault recorded. -/
def exec (i : Instr) (s : State) : Host.Outcome State Fault Refusal :=
  match i with
  | .nop => Sys2Proof.Machine.execNop s
  | .tick => Sys2Proof.Machine.execTick s
  | .showTime => Sys2Proof.Machine.execShowTime s
  | .showCharge => Sys2Proof.Machine.execShowCharge s
  | .showEmpty => Sys2Proof.Machine.execShowEmpty s
  | .showTimeAndCharge => Sys2Proof.Machine.execShowTimeAndCharge s
  | .setTime hh mm => Sys2Proof.Machine.execSetTime hh mm s
  | .getTime => Sys2Proof.Machine.execGetTime s
  | .setChargeLevel v => Sys2Proof.Machine.execSetChargeLevel v s
  | .isDisplayOn => Sys2Proof.Machine.execIsDisplayOn s
  | .setDigit slot code dot => Sys2Proof.Machine.execSetDigit slot code dot s
  | .update => Sys2Proof.Machine.execUpdate s
  | .off => Sys2Proof.Machine.execOff s
  | .busEnable => Sys2Proof.Machine.execBusEnable s

end Sys2Proof.Machine
end

