-- ==== Sys2Proof/Machine/Fetch.lean ====
section
/-! DEFINITION. Taking one event: a word from a port, a tick pulse or a reset (00_scope R5). -/

namespace Sys2Proof.Machine

/-- A word taken from a port: refused with the code of the first check that fails, else executed
(30_encoding R85, 60_exceptions R201 to R203). -/
def State.takeWord (s : State) (p : Port) (w : Word) : Host.Outcome State Fault Refusal :=
  match decode p w with
  | .ok i => exec i s
  | .error c => .next (s.raise c w)

/-- One event, in a state whose ports are clear. A tick pulse is equal in effect to the command word `0x1000`
(60_exceptions R206). -/
def State.takeEvent (s : State) (e : Event) : Host.Outcome State Fault Refusal :=
  match e with
  | .command w => s.takeWord .command w
  | .tick => exec .tick s
  | .reset => .next s.resetEvent
  | .muxWord u => s.takeWord .mux u

/-- The state in which the oldest event is taken: it is off the list, and the ports are clear. -/
def State.begin (s : State) (rest : List Event) : State := { s.clearPorts with events := rest }

/-- The event that carries a word on a port. -/
def eventOn (p : Port) (w : Word) : Event :=
  match p with
  | .command => .command w
  | .mux => .muxWord w

/-- The next event of the block. A faulted block takes none (60_exceptions R204); with none presented it waits, and
nothing changes (70_reset_and_hazards R231, notes/assumptions/14.md). -/
def nextEvent (s : State) : Host.Outcome State Fault Refusal :=
  match s.fault, s.events with
  | some r, _ => .fault (.halted r)
  | none, [] => .next s
  | none, e :: rest => (s.begin rest).takeEvent e

end Sys2Proof.Machine
end

