-- ==== Sys2Proof/Machine/Step.lean ====
section
/-! DEFINITION. One step of the block, and a word placed where the next step takes it. -/

namespace Sys2Proof.Machine

/-- One step: one event (00_scope R15). -/
def step (s : State) : Host.Outcome State Fault Refusal := nextEvent s

/-- A word of the opcode table as the next event, on the port of `tablePort`: the host presents it ahead of all it
presented before (notes/assumptions/1.md, notes/assumptions/2.md). -/
def State.withFetchWord (s : State) (nbits w : Nat) : State :=
  { s with events := eventOn (tablePort (tableWord nbits w)) (tableWord nbits w) :: s.events }

end Sys2Proof.Machine
end

