-- ==== Sys2Proof/Machine/Assembly.lean ====
section
/-! DEFINITION. The assembly syntax of 30_encoding section 3: the text of an instruction, the pseudo-instructions, and
an assembler for one line. No event reads it; it stands beside the machine. -/

namespace Sys2Proof.Machine

/-- A decimal number (30_encoding R86). -/
def decimalText (n : Nat) : List Char := Nat.toDigits 10 n

/-- The name of a `dot` operand; code 3 has none (30_encoding R86). -/
def dotText (dot : BitVec 2) : Option (List Char) :=
  match dot.toNat with
  | 0 => some "OFF".toList
  | 1 => some "DIGIT1".toList
  | 2 => some "DIGIT2".toList
  | _ => none

/-- The operands of an instruction as text, in the order the syntax writes them (30_encoding R86). -/
def operandTexts : Instr → Option (List (List Char))
  | .nop => some []
  | .tick => some []
  | .showTime => some []
  | .showCharge => some []
  | .showEmpty => some []
  | .showTimeAndCharge => some []
  | .setTime hh mm => some [decimalText hh.toNat, decimalText mm.toNat]
  | .getTime => some []
  | .setChargeLevel v => some [decimalText v.toNat]
  | .isDisplayOn => some []
  | .setDigit slot code dot =>
    (dotText dot).map fun d => [decimalText (bitOfSlot slot).toNat, decimalText code.toNat, d]
  | .update => some []
  | .off => some []
  | .busEnable => some []

/-- One line of assembly: the mnemonic, then the operands separated by commas (30_encoding R86). -/
def lineOf (i : Instr) : Option (List Char) :=
  (operandTexts i).map fun ops =>
    i.mnemonic.toList ++ (if ops.isEmpty then [] else ' ' :: [',', ' '].intercalate ops)

/-- `TICKS n` (30_encoding R87). -/
def ticksPseudo (n : Nat) : List Instr := List.replicate n .tick

/-- `CYCLE`, one full display cycle (30_encoding R87). -/
def cyclePseudo (p : Params) : List Instr := ticksPseudo p.cycle

/-- Text without the blanks around it. -/
def trimBlanks (cs : List Char) : List Char :=
  ((cs.dropWhile (· == ' ')).reverse.dropWhile (· == ' ')).reverse

/-- Text cut at every comma. -/
def splitCommas : List Char → List (List Char)
  | [] => [[]]
  | c :: cs =>
    if c == ',' then [] :: splitCommas cs
    else match splitCommas cs with
      | [] => [[c]]
      | t :: ts => (c :: t) :: ts

/-- The value of one decimal digit. -/
def digitValue (c : Char) : Option Nat :=
  if '0' ≤ c ∧ c ≤ '9' then some (c.toNat - '0'.toNat) else none

/-- The value of a decimal number whose digits before these have value `acc`. -/
def decimalFrom (acc : Nat) : List Char → Option Nat
  | [] => some acc
  | c :: cs => (digitValue c).bind fun d => decimalFrom (10 * acc + d) cs

/-- A decimal operand below `bound`, which is what its field can hold. -/
def readDecimal (bound : Nat) (cs : List Char) : Option Nat :=
  if cs.isEmpty then none
  else (decimalFrom 0 cs).bind fun n => if n < bound then some n else none

/-- A `dot` operand by its name (30_encoding R86). -/
def readDot (cs : List Char) : Option (BitVec 2) :=
  if cs = "OFF".toList then some 0
  else if cs = "DIGIT1".toList then some 1
  else if cs = "DIGIT2".toList then some 2
  else none

/-- A mnemonic with its operand texts (30_encoding R86, R87). -/
def assembleParts (p : Params) (mnemonic : List Char) (ops : List (List Char)) : Option (List Instr) :=
  match String.ofList mnemonic, ops with
  | "NOP", [] => some [.nop]
  | "TICK", [] => some [.tick]
  | "SHOW_TIME", [] => some [.showTime]
  | "SHOW_CHARGE", [] => some [.showCharge]
  | "SHOW_EMPTY", [] => some [.showEmpty]
  | "SHOW_TIME_AND_CHARGE", [] => some [.showTimeAndCharge]
  | "SET_TIME", [h, m] =>
    (readDecimal 32 h).bind fun hh => (readDecimal 64 m).map fun mm =>
      [.setTime (BitVec.ofNat 5 hh) (BitVec.ofNat 6 mm)]
  | "GET_TIME", [] => some [.getTime]
  | "SET_CHARGE_LEVEL", [v] => (readDecimal 256 v).map fun n => [.setChargeLevel (BitVec.ofNat 8 n)]
  | "IS_DISPLAY_ON", [] => some [.isDisplayOn]
  | "SET_DIGIT", [s, c, d] =>
    (readDecimal 2 s).bind fun slot => (readDecimal 32 c).bind fun code => (readDot d).map fun dot =>
      [.setDigit (slotOfBit (slot == 1)) (BitVec.ofNat 5 code) dot]
  | "UPDATE", [] => some [.update]
  | "OFF", [] => some [.off]
  | "BUS_ENABLE", [] => some [.busEnable]
  | "TICKS", [n] =>
    if n.isEmpty then none
    else (decimalFrom 0 n).bind fun k => if 1 ≤ k then some (ticksPseudo k) else none
  | "CYCLE", [] => some (cyclePseudo p)
  | _, _ => none

/-- The instructions of one line, none where it is no line of the syntax; a line that is blank but for a comment
gives no instruction (30_encoding R86, R87; notes/assumptions/24.md). -/
def assembleLine (p : Params) (line : List Char) : Option (List Instr) :=
  let text := trimBlanks (line.takeWhile (· != ';'))
  if text.isEmpty then some []
  else
    let rest := trimBlanks (text.dropWhile (· != ' '))
    assembleParts p (text.takeWhile (· != ' '))
      (if rest.isEmpty then [] else (splitCommas rest).map trimBlanks)

/-- The words of assembled instructions, each on its own port. -/
def assembledWords (is : List Instr) : List Word := is.map encode

end Sys2Proof.Machine
end

