-- ==== Sys2Proof/Safety.lean ====
section
/-! DEFINITION. What the claims speak of: legal wall time, the block's invariant, the fault a word should raise, and
runs of TICKs and UPDATEs. -/

namespace Sys2Proof.Machine

/-- An event a host can present: any but a word on the mux port (00_scope R5, 30_encoding R88). -/
def Event.hosted : Event → Bool
  | .command _ => true
  | .tick => true
  | .reset => true
  | .muxWord _ => false

/-- The legal ranges of the wall time (10_state R26). -/
abbrev State.WallLegal (s : State) : Prop :=
  s.hours.toNat ≤ 23 ∧ s.minutes.toNat ≤ 59 ∧ s.seconds.toNat ≤ 59

/-- The wall time as seconds since midnight. -/
def State.wallSeconds (s : State) : Nat := 3600 * s.hours.toNat + 60 * s.minutes.toNat + s.seconds.toNat

/-- The mode a TICK dispatches on: a pending request, else the mode shown (41_tick R134, R138). -/
def State.modeToShow (s : State) : DisplayMode :=
  if s.displayNewStatus = .idle then s.displayStatus else s.displayNewStatus

/-- The display counter a TICK dispatches on, after steps 2 and 3 (41_tick R134, R135). -/
def State.counterToShow (s : State) : Nat :=
  let c := if s.displayNewStatus = .idle then s.displayCounter else 0
  if c < 4 * s.params.tps then c + 1 else c

/-- The slot the last UPDATE rendered (40_mux R103). -/
def State.shownSlot (s : State) : Slot :=
  if s.params.updateToggleFirst then s.alt else otherSlot s.alt

/-- The output lines show one slot's pending content, with that slot's anode high (40_mux R103, R108). -/
abbrev State.Shows (s : State) (slot : Slot) : Prop :=
  s.seg = s.params.segTable.get (s.pendCode slot) ∧ s.an = anodeOf slot ∧
    (s.dp = true ↔ s.pendDot slot = dotOf slot)

/-- Every output line is low (40_mux R105). -/
abbrev State.Dark (s : State) : Prop := s.seg = 0 ∧ s.an = 0 ∧ s.dp = false ∧ s.busEn = false

/-- No pending slot, alternator or output line differs: the mux and its lines are as they were. -/
abbrev State.SameMux (s t : State) : Prop :=
  t.pendCode0 = s.pendCode0 ∧ t.pendCode1 = s.pendCode1 ∧ t.pendDot0 = s.pendDot0 ∧
    t.pendDot1 = s.pendDot1 ∧ t.alt = s.alt ∧ t.seg = s.seg ∧ t.an = s.an ∧ t.dp = s.dp ∧ t.busEn = s.busEn

/-- What holds between any two events of a block that a host drives. -/
structure State.Inv (s : State) : Prop where
  /-- The parameters are legal (00_scope R6 to R10). -/
  params : s.params.Wf
  /-- 10_state R26. -/
  wall : s.WallLegal
  /-- 10_state R27. -/
  phase : s.currentTick < s.params.secPeriod
  /-- 10_state R31. -/
  counterPositive : 1 ≤ s.displayCounter
  /-- 10_state R31. -/
  counterBound : s.displayCounter ≤ s.params.cycle
  /-- The mode is Idle exactly in quarter 4 (41_tick R142, R144). -/
  idleIffOff : s.displayStatus = .idle ↔ 3 * s.params.tps < s.displayCounter
  /-- `displaying` falls only when the counter has stopped (41_tick R135). -/
  notDisplaying : s.displaying = false → s.displayCounter = s.params.cycle
  /-- In quarter 4 every output line is low (41_tick R142). -/
  dark : 3 * s.params.tps < s.displayCounter → s.Dark
  /-- In quarters 1 to 3 the bus is enabled and the lines show the pending content of the slot last rendered
  (41_tick R139 to R144). -/
  lit : s.displayCounter ≤ 3 * s.params.tps → s.busEn = true ∧ s.Shows s.shownSlot
  /-- The host presents no word on the mux port (30_encoding R88). -/
  hosted : ∀ e ∈ s.events, e.hosted = true

/-- The reserved bits of a word on a port, from its opcode (30_encoding R75, R76). -/
def reservedBitsOf (p : Port) (op : Nat) : Word :=
  match p, op with
  | .command, 6 => 0x0800
  | .command, 8 => 0x0F00
  | .mux, 1 => 0x0E80
  | _, _ => 0x0FFF

/-- The fault a word on a port raises: the first of the three checks of 30_encoding R85 that fails, with the opcodes
of R81 and R82, the reserved bits of R75 and R76 and the ranges of R73 and R78. -/
def faultOfWord (p : Port) (w : Word) : Option FaultCode :=
  let op := w.toNat / 4096
  if (p = .command ∧ 0xA ≤ op) ∨ (p = .mux ∧ (op = 0 ∨ 5 ≤ op)) then some .illegalOpcode
  else if w &&& reservedBitsOf p op ≠ 0 then some .reservedBits
  else if p = .command ∧ op = 6 ∧ (23 < w.toNat / 64 % 32 ∨ 59 < w.toNat % 64) then some .operandRange
  else if p = .mux ∧ op = 1 ∧ (16 < w.toNat % 32 ∨ w.toNat / 32 % 4 = 3) then some .operandRange
  else none

/-- Every command word with this opcode and a 1 below it is refused with RESERVED_BITS (30_encoding R75). -/
def RefusesLowBits (op : Nat) : Prop :=
  ∀ w : Word, w.toNat / 4096 = op → w.toNat % 4096 ≠ 0 → decode .command w = .error .reservedBits

/-- An instruction executed `n` times in a row. -/
def execTimes (i : Instr) : Nat → State → Host.Outcome State Fault Refusal
  | 0, s => .next s
  | n + 1, s =>
    match exec i s with
    | .next t => execTimes i n t
    | .fault r => .fault r
    | .refused r => .refused r

end Sys2Proof.Machine
end

