-- ==== Sys2Proof/Certificates/Slice0/Obligations.lean ====
section
/-! DEFINITION. The statements about the display block. -/

open Sys2Proof Sys2Proof.Machine

/-! ## Encoding -/

/-- Words written out from 30_encoding R72 and R77 decode to the instructions they stand for, on their port. -/
def Obligations.WordsDecodeToTheirRows : Prop :=
  decode .command 0b0000000000000000 = .ok .nop ∧
  decode .command 0b0001000000000000 = .ok .tick ∧
  decode .command 0b0100000000000000 = .ok .showEmpty ∧
  decode .command 0b0110001101100101 = .ok (.setTime 13 37) ∧
  decode .command 0b1000000010011111 = .ok (.setChargeLevel 159) ∧
  decode .mux 0b0001000101000111 = .ok (.setDigit .slot1 7 2) ∧
  decode .mux 0b0001000000100101 = .ok (.setDigit .slot0 5 1) ∧
  decode .mux 0b0010000000000000 = .ok .update ∧
  decode .mux 0b0011000000000000 = .ok .off ∧
  decode .mux 0b0100000000000000 = .ok .busEnable

/-- Decoding an encoded instruction gives it back, on its own port, with every operand at every value its field
holds (30_encoding R71 to R78). -/
def Obligations.DecodeOfEncodeIsTheInstruction : Prop :=
  ∀ i : Instr, decode i.port (encode i) = .ok i

/-- A word that decodes is the encoding of the instruction it gives, so no word is read as a neighbour's
(30_encoding R83). -/
def Obligations.EncodeOfDecodeIsTheWord : Prop :=
  ∀ (p : Port) (w : Word) (i : Instr), decode p w = .ok i → i.port = p ∧ encode i = w

/-- A word decodes exactly when it spells a row of the port's opcode map, it then spells one row only, and the
instruction is that row's (30_encoding R72, R77, R83). -/
def Obligations.DecodedWordSpellsExactlyOneRow : Prop :=
  ∀ (p : Port) (w : Word),
    (∀ i, decode p w = .ok i →
      ∃ r, opcodeRows.filter (fun r => r.spells p w) = [r] ∧ r.mnemonic = i.mnemonic) ∧
    (∀ c, decode p w = .error c → opcodeRows.filter (fun r => r.spells p w) = [])

/-! ## Taking an event, faults -/

/-- R85, R203: the first of the three checks that fails decides the fault of a word, on either port; the fault is
recorded with the word and nothing else changes. A word that passes the three checks leaves no fault. -/
def Obligations.FirstFailedCheckDecidesTheFault : Prop :=
  ∀ (p : Port) (w : Word) (s : State) (rest : List Event),
    s.fault = none → s.events = eventOn p w :: rest →
      match faultOfWord p w with
      | some c =>
        step s = .next { s with
          events := rest, response := none, emitted := [], fault := some ⟨c, w⟩ }
      | none => ∃ t, step s = .next t ∧ t.fault = none

/-- R204: once a fault is recorded no event is taken, whatever the host presents, a reset among them. -/
def Obligations.FaultedBlockTakesNoEvent : Prop :=
  ∀ (s : State) (r : FaultRecord), s.fault = some r → step s = .fault (.halted r)

/-- A block without a fault always steps to a next state: a fault is recorded before the machine stops, no
instruction is refused and none stops the run by itself (60_exceptions R200, R201; notes/assumptions/10.md). -/
def Obligations.UnfaultedBlockAlwaysSteps : Prop :=
  ∀ s : State, s.fault = none → ∃ t, step s = .next t

/-- A step runs the decoded instruction: when the oldest event is a word that decodes to an instruction, the step is
that instruction's effect on the state with the event taken and the ports clear. -/
def Obligations.StepRunsTheDecodedInstruction : Prop :=
  ∀ (p : Port) (w : Word) (i : Instr) (s : State) (rest : List Event),
    s.fault = none → s.events = eventOn p w :: rest → decode p w = .ok i →
      step s = exec i { s with events := rest, response := none, emitted := [] }

/-- A pulse on the tick input is one TICK, equal in effect to the command word `0x1000` (60_exceptions R206). -/
def Obligations.TickPulseEqualsTickCommand : Prop :=
  ∀ (s : State) (rest : List Event), s.fault = none →
    step { s with events := .tick :: rest } = step { s with events := .command 0x1000 :: rest } ∧
    step { s with events := .tick :: rest } =
      exec .tick { s with events := rest, response := none, emitted := [] }

/-- A tick pulse and a command word that arrive together are taken in that order (60_exceptions R206). -/
def Obligations.TickIsTakenBeforeSimultaneousCommand : Prop :=
  ∀ (s : State) (w : Word), s.fault = none → s.events = [] →
    ∃ t, exec .tick { s with events := [.command w], response := none, emitted := [] } = .next t ∧
      step (s.present true (some w)) = .next t ∧
      step t = (State.takeWord { t with events := [], response := none, emitted := [] } .command w)

/-- With no event presented a block waits unchanged: the MODEL's choice (notes/assumptions/14.md). -/
def Obligations.WaitingBlockIsUnchanged : Prop :=
  ∀ s : State, s.fault = none → s.events = [] → step s = .next s

/-- R44: GET_TIME and IS_DISPLAY_ON leave one response word, and no other event leaves one: it is not kept after its
event. -/
def Obligations.OnlyAccessorsRespond : Prop :=
  ∀ (s t : State) (e : Event) (rest : List Event),
    s.fault = none → s.events = e :: rest → step s = .next t →
      (e = .command 0x7000 → ∃ r, t.response = some r ∧
        r.toNat = 64 * s.hours.toNat + s.minutes.toNat) ∧
      (e = .command 0x9000 → ∃ r, t.response = some r ∧
        r.toNat = (if s.displaying then 1 else 0)) ∧
      (e ≠ .command 0x7000 → e ≠ .command 0x9000 → t.response = none)

/-! ## Reset -/

/-- R45: the value after reset of every state element. -/
def Obligations.ResetValueOfEveryElement : Prop :=
  ∀ (p : Params) (s : State), s = State.resetOf p →
    s.hours = p.resetHours ∧ s.minutes = p.resetMinutes ∧ s.seconds = p.resetSeconds ∧
    s.currentTick = 0 ∧ s.displayStatus = .idle ∧ s.displayNewStatus = .idle ∧
    s.displayCounter = 4 * p.tps ∧ s.displaying = false ∧ s.chargeLevel = 0 ∧
    s.pendCode .slot0 = 10 ∧ s.pendCode .slot1 = 10 ∧
    s.pendDot .slot0 = .off ∧ s.pendDot .slot1 = .off ∧ s.alt = .slot0 ∧
    s.seg = 0b0000000 ∧ s.an = 0b00 ∧ s.dp = false ∧ s.busEn = false ∧ s.fault = none

/-- The reset event loads every state element; the parameters and the events still to come stay (70_reset_and_hazards
R230). -/
def Obligations.ResetEventLoadsResetState : Prop :=
  ∀ (s : State) (rest : List Event), s.fault = none → s.events = .reset :: rest →
    step s = .next { State.resetOf s.params with events := rest }

/-- The parameters of State.reset are legal; its segment ROM has the blank entry all off (00_scope R8; the other
entries are free, notes/assumptions/5.md). -/
def Obligations.ResetParametersAreLegal : Prop :=
  State.reset.params.Wf ∧ State.reset.segRom 10 = 0

/-- A TICK from the quiescent state, which is that of reset and of a finished cycle, emits OFF and advances only the
tick counter and perhaps the wall time (70_reset_and_hazards R231). -/
def Obligations.QuiescentTickOnlyAdvancesTheClock : Prop :=
  ∀ s : State, 2 ≤ s.params.tps → s.displayStatus = .idle → s.displayNewStatus = .idle →
    s.displayCounter = 4 * s.params.tps → s.displaying = false → s.Dark →
      ∃ h m sec c, exec .tick s = .next { s with
        hours := h, minutes := m, seconds := sec, currentTick := c, emitted := s.emitted ++ [.off] }

/-! ## Invariants -/

/-- The invariant holds at reset, under every legal choice of the parameters. -/
def Obligations.ResetSatisfiesInvariant : Prop :=
  (∀ p : Params, p.Wf → (State.resetOf p).Inv) ∧ State.reset.Inv

/-- Every step of a host-driven block keeps the invariant: legal wall time, tick phase and display counter in their
ranges, the mode Idle exactly in quarter 4, the lines dark exactly there and else showing the slot last rendered. -/
def Obligations.EveryStepKeepsInvariant : Prop :=
  ∀ s t : State, s.Inv → step s = .next t → t.Inv

/-- R26: the wall time is legal after reset and after every event of any kind. -/
def Obligations.WallTimeStaysLegal : Prop :=
  (∀ p : Params, p.Wf → (State.resetOf p).WallLegal) ∧
  (∀ s t : State, s.params.Wf → s.WallLegal → step s = .next t → t.WallLegal)

/-- The two counters fit the widths the parameters give them (00_scope R11). -/
def Obligations.CountersFitTheirWidths : Prop :=
  ∀ s : State, s.Inv →
    s.currentTick < 2 ^ s.params.tickWidth ∧ s.displayCounter < 2 ^ s.params.counterWidth

/-- No step writes the parameters, the contents of the segment ROM among them (10_state R46, 20_memory R50). -/
def Obligations.NoStepWritesParametersOrRom : Prop :=
  ∀ s t : State, step s = .next t → t.params = s.params

/-- A host event that is neither a TICK nor a reset leaves the mux, its lines, the display state, the seconds and the
tick phase as they were (10_state R22, R48; 42_requests). -/
def Obligations.OnlyTickAndResetReachTheDisplay : Prop :=
  ∀ (s t : State) (e : Event) (rest : List Event),
    s.fault = none → s.events = e :: rest → e.hosted = true →
    e ≠ .tick → e ≠ .command 0x1000 → e ≠ .reset → step s = .next t →
      s.SameMux t ∧ t.displayStatus = s.displayStatus ∧ t.displayCounter = s.displayCounter ∧
      t.displaying = s.displaying ∧ t.currentTick = s.currentTick ∧ t.seconds = s.seconds ∧ t.emitted = []

/-! ## Requests and accessors -/

/-- R170: NOP's word, its reserved bits, and no effect at all. -/
def Obligations.NopHasNoEffect : Prop :=
  decode .command 0x0000 = .ok .nop ∧ RefusesLowBits 0x0 ∧ ∀ s : State, exec .nop s = .next s

/-- R171 to R174: each display request's word, its reserved bits, and its one effect: the mode is staged. -/
def Obligations.DisplayRequestsStageTheirMode : Prop :=
  (decode .command 0x2000 = .ok .showTime ∧ RefusesLowBits 0x2 ∧
    ∀ s : State, exec .showTime s = .next { s with displayNewStatus := .time }) ∧
  (decode .command 0x3000 = .ok .showCharge ∧ RefusesLowBits 0x3 ∧
    ∀ s : State, exec .showCharge s = .next { s with displayNewStatus := .charge }) ∧
  (decode .command 0x4000 = .ok .showEmpty ∧ RefusesLowBits 0x4 ∧
    ∀ s : State, exec .showEmpty s = .next { s with displayNewStatus := .emptyBattery }) ∧
  (decode .command 0x5000 = .ok .showTimeAndCharge ∧ RefusesLowBits 0x5 ∧
    ∀ s : State, exec .showTimeAndCharge s = .next { s with displayNewStatus := .both })

/-- Of two requests between two TICKs the last one wins, and the next TICK shows it from quarter 1; no request
cancels a pending one (42_requests R175). -/
def Obligations.LastRequestWins : Prop :=
  ∀ (i j : Instr) (s : State),
    i ∈ [Instr.showTime, .showCharge, .showEmpty, .showTimeAndCharge] →
    j ∈ [Instr.showTime, .showCharge, .showEmpty, .showTimeAndCharge] → 0 < s.params.tps →
      ∃ t u v, exec i s = .next t ∧ exec j t = .next u ∧ exec j s = .next u ∧
        u.displayNewStatus ≠ .idle ∧ exec .tick u = .next v ∧
        v.displayStatus = u.displayNewStatus ∧ v.displayCounter = 1 ∧ v.displaying = true

/-- R176: SET_TIME's word and reserved bit; legal operands go to hours and minutes and nothing else changes; an operand
out of range is refused with the command's word. -/
def Obligations.SetTimeWritesHoursAndMinutes : Prop :=
  (∀ (hh : BitVec 5) (mm : BitVec 6),
    decode .command (BitVec.ofNat 16 (0x6000 + 64 * hh.toNat + mm.toNat)) = .ok (.setTime hh mm)) ∧
  (∀ w : Word, w.toNat / 4096 = 6 → w.getLsbD 11 = true → decode .command w = .error .reservedBits) ∧
  (∀ (hh : BitVec 5) (mm : BitVec 6) (s : State), hh.toNat ≤ 23 → mm.toNat ≤ 59 →
    exec (.setTime hh mm) s = .next { s with hours := hh, minutes := mm }) ∧
  (∀ (hh : BitVec 5) (mm : BitVec 6) (s : State), 23 < hh.toNat ∨ 59 < mm.toNat →
    exec (.setTime hh mm) s = .next { s with
      fault := some ⟨.operandRange, BitVec.ofNat 16 (0x6000 + 64 * hh.toNat + mm.toNat)⟩ })

/-- R177: GET_TIME's word and reserved bits; it responds hours and minutes and changes no state. -/
def Obligations.GetTimeRespondsHoursAndMinutes : Prop :=
  decode .command 0x7000 = .ok .getTime ∧ RefusesLowBits 0x7 ∧
  ∀ s : State, exec .getTime s = .next { s with
    response := some (BitVec.ofNat 16 (64 * s.hours.toNat + s.minutes.toNat)) }

/-- R79: the layout of GET_TIME's response is that of SET_TIME's operands, so SET_TIME of a response restores the
time. -/
def Obligations.SetTimeOfResponseRestoresTheTime : Prop :=
  ∀ s : State, ∃ r : Word, exec .getTime s = .next { s with response := some r } ∧
    r.extractLsb' 11 5 = 0 ∧ r.extractLsb' 6 5 = s.hours ∧ r.extractLsb' 0 6 = s.minutes ∧
    decode .command (0x6000 ||| r) = .ok (.setTime s.hours s.minutes) ∧
    (s.WallLegal → ∀ t : State,
      exec (.setTime s.hours s.minutes) t = .next { t with hours := s.hours, minutes := s.minutes })

/-- R178: SET_CHARGE_LEVEL's word and reserved bits; every byte is stored as it is. -/
def Obligations.SetChargeLevelStoresTheByte : Prop :=
  (∀ v : BitVec 8, decode .command (BitVec.ofNat 16 (0x8000 + v.toNat)) = .ok (.setChargeLevel v)) ∧
  (∀ w : Word, w.toNat / 4096 = 8 → w.extractLsb' 8 4 ≠ 0 → decode .command w = .error .reservedBits) ∧
  (∀ (v : BitVec 8) (s : State), exec (.setChargeLevel v) s = .next { s with chargeLevel := v })

/-- R179: IS_DISPLAY_ON's word and reserved bits; it responds the flag and writes nothing. -/
def Obligations.IsDisplayOnRespondsTheFlag : Prop :=
  decode .command 0x9000 = .ok .isDisplayOn ∧ RefusesLowBits 0x9 ∧
  ∀ s : State, exec .isDisplayOn s = .next { s with
    response := some (if s.displaying then 0x0001 else 0x0000) }

/-- Two equal commands in a row leave the same state as one, for every command but TICK (20_memory R56). -/
def Obligations.CommandsButTickAreIdempotent : Prop :=
  ∀ (i : Instr) (s t : State), i.port = .command → i ≠ .tick → exec i s = .next t → exec i t = .next t

/-! ## The mux -/

/-- R102: SET_DIGIT's word and reserved bits; legal operands go to one pending slot and no line changes; a code above
16 or a dot of 3 is refused with the word. -/
def Obligations.SetDigitStoresOnePendingSlot : Prop :=
  (∀ (code : BitVec 5) (dot : BitVec 2),
    decode .mux (BitVec.ofNat 16 (0x1000 + 32 * dot.toNat + code.toNat)) = .ok (.setDigit .slot0 code dot) ∧
    decode .mux (BitVec.ofNat 16 (0x1100 + 32 * dot.toNat + code.toNat)) = .ok (.setDigit .slot1 code dot)) ∧
  (∀ u : Word, u.toNat / 4096 = 1 → u.extractLsb' 9 3 ≠ 0 ∨ u.getLsbD 7 = true →
    decode .mux u = .error .reservedBits) ∧
  (∀ (code : BitVec 5) (dot : BitVec 2) (s : State), code.toNat ≤ 16 → dot.toNat ≤ 2 →
    ∃ d : DotSlot, dotCode d = dot ∧
      exec (.setDigit .slot0 code dot) s =
        .next { s with pendCode0 := Fin.ofNat 17 code.toNat, pendDot0 := d } ∧
      exec (.setDigit .slot1 code dot) s =
        .next { s with pendCode1 := Fin.ofNat 17 code.toNat, pendDot1 := d }) ∧
  (∀ (code : BitVec 5) (dot : BitVec 2) (s : State), 16 < code.toNat ∨ dot.toNat = 3 →
    exec (.setDigit .slot0 code dot) s = .next { s with
      fault := some ⟨.operandRange, BitVec.ofNat 16 (0x1000 + 32 * dot.toNat + code.toNat)⟩ } ∧
    exec (.setDigit .slot1 code dot) s = .next { s with
      fault := some ⟨.operandRange, BitVec.ofNat 16 (0x1100 + 32 * dot.toNat + code.toNat)⟩ })

/-- R103: UPDATE's word; the alternator toggles, and one slot is rendered: the one chosen after or before the toggle,
by the parameter. The dot is high iff the slot's DotSlot names it. -/
def Obligations.UpdateRendersOneSlot : Prop :=
  decode .mux 0x2000 = .ok .update ∧
  ∀ (s : State) (slot : Slot),
    slot = (match s.params.updateToggleFirst, s.alt with
      | true, .slot0 => .slot1
      | true, .slot1 => .slot0
      | false, a => a) →
    exec .update s = .next { s with
      alt := (match s.alt with | .slot0 => .slot1 | .slot1 => .slot0)
      seg := s.params.segTable.get (match slot with | .slot0 => s.pendCode0 | .slot1 => s.pendCode1)
      an := (match slot with | .slot0 => 0b01 | .slot1 => 0b10)
      dp := (match slot with
        | .slot0 => decide (s.pendDot0 = .digit1)
        | .slot1 => decide (s.pendDot1 = .digit2)) }

/-- The three phases of UPDATE keep both anodes low while the segment lines change, and the segment lines fixed while
an anode rises (40_mux R104). -/
def Obligations.UpdatePhasesKeepTheirOrder : Prop :=
  ∀ (s : State) (slot : Slot),
    (s.driveLow.an = 0 ∧ s.driveLow.dp = false ∧ s.driveLow.seg = s.seg) ∧
    ((s.driveLow.driveSegments slot).an = 0 ∧ (s.driveLow.driveSegments slot).dp = false) ∧
    (((s.driveLow.driveSegments slot).driveSlot slot).seg = (s.driveLow.driveSegments slot).seg) ∧
    s.updateMux = ((s.toggleAlt.driveLow).driveSegments s.nextSlot).driveSlot s.nextSlot

/-- R105: OFF's word; the four outputs go low, the alternator and the pending slots stay. -/
def Obligations.OffForcesEveryOutputLow : Prop :=
  decode .mux 0x3000 = .ok .off ∧
  ∀ s : State, exec .off s = .next { s with seg := 0b0000000, an := 0b00, dp := false, busEn := false }

/-- R106: BUS_ENABLE's word; the bus-enable line goes high and nothing else changes. -/
def Obligations.BusEnableRaisesOneLine : Prop :=
  decode .mux 0x4000 = .ok .busEnable ∧ ∀ s : State, exec .busEnable s = .next { s with busEn := true }

/-- UPDATEs with no SET_DIGIT between them render the two slots in turn: the next slot first, then the other, and so
on; what is pending, the bus-enable line and the registers of the engine stay (40_mux R109, R108). -/
def Obligations.RepeatedUpdatesAlternateSlots : Prop :=
  ∀ (n : Nat) (s : State),
    ∃ t, execTimes .update (n + 1) s = .next t ∧
      t.Shows (if n % 2 = 0 then s.nextSlot else otherSlot s.nextSlot) ∧
      t.alt = (if n % 2 = 0 then otherSlot s.alt else s.alt) ∧
      t = { s with alt := t.alt, seg := t.seg, an := t.an, dp := t.dp }

/-! ## TICK -/

/-- R132: `second_passed` from a legal time is the next second of a 24-hour clock, and writes nothing else. -/
def Obligations.SecondPassedIsTheNextSecond : Prop :=
  ∀ s : State, s.WallLegal →
    s.secondPassed = { s with
      hours := BitVec.ofNat 5 ((s.wallSeconds + 1) % 86400 / 3600)
      minutes := BitVec.ofNat 6 ((s.wallSeconds + 1) % 86400 / 60 % 60)
      seconds := BitVec.ofNat 6 ((s.wallSeconds + 1) % 86400 % 60) }

/-- R131: a TICK advances the tick counter, and the TICK that brings it to SEC_PERIOD passes a second and resets it;
so `n` TICKs pass one second for every SEC_PERIOD-th of them, and the counter stays below SEC_PERIOD. -/
def Obligations.SecondBoundaryEverySecPeriodTicks : Prop :=
  (∀ s : State, ∃ t, exec .tick s = .next t ∧
    (s.currentTick + 1 = s.params.secPeriod →
      t.currentTick = 0 ∧ t.hours = s.secondPassed.hours ∧ t.minutes = s.secondPassed.minutes ∧
        t.seconds = s.secondPassed.seconds) ∧
    (s.currentTick + 1 ≠ s.params.secPeriod →
      t.currentTick = s.currentTick + 1 ∧ t.hours = s.hours ∧ t.minutes = s.minutes ∧
        t.seconds = s.seconds)) ∧
  (∀ (n : Nat) (s : State), s.WallLegal → s.currentTick < s.params.secPeriod →
    ∃ t, execTimes .tick n s = .next t ∧
      t.currentTick = (s.currentTick + n) % s.params.secPeriod ∧
      t.wallSeconds = (s.wallSeconds + (s.currentTick + n) / s.params.secPeriod) % 86400 ∧
      t.WallLegal)

/-- A TICK latches a pending request and restarts the cycle (41_tick R134), then counts up to `4*TPS` and stops there;
"displaying" tells whether it counted (41_tick R135). That the counter is tested once, before the increment, is the
spec's own reading of its source (D13), and the model's choice with it: notes/assumptions/18.md. The other registers it
does not name stay, and no fault is raised. -/
def Obligations.TickLatchesAndCounts : Prop :=
  ∀ (s : State) (c : Nat), c = (if s.displayNewStatus = .idle then s.displayCounter else 0) →
    ∃ t, exec .tick s = .next t ∧ t.displayNewStatus = .idle ∧
      (c < 4 * s.params.tps → t.displayCounter = c + 1 ∧ t.displaying = true) ∧
      (4 * s.params.tps ≤ c → t.displayCounter = c ∧ t.displaying = false) ∧
      (0 < t.displayCounter → t.displayCounter ≤ 3 * s.params.tps →
        t.displayStatus = (if s.displayNewStatus = .idle then s.displayStatus else s.displayNewStatus)) ∧
      t.params = s.params ∧ t.chargeLevel = s.chargeLevel ∧ t.fault = s.fault ∧ t.events = s.events ∧
      t.response = s.response

/-- R137: the gauge value, floor division then the clamp, and its steps. -/
def Obligations.GaugeValueIsClamped : Prop :=
  (∀ v : BitVec 8, (gaugeOf v).val = min 16 (10 + v.toNat / 16) ∧ 10 ≤ (gaugeOf v).val ∧
    (v.toNat ≤ 15 → gaugeOf v = 10) ∧ (80 ≤ v.toNat → v.toNat ≤ 95 → gaugeOf v = 15) ∧
    (96 ≤ v.toNat → gaugeOf v = 16)) ∧
  (∀ v w : BitVec 8, v.toNat ≤ w.toNat → gaugeOf v ≤ gaugeOf w)

/-- R139: in quarter 1 a TICK enables the bus and renders the next slot, after writing both slots: the digits of the
hours (as this TICK leaves them) in modes Time and Both, blanks in EmptyBattery, nothing in Charge and Idle. -/
def Obligations.Quarter1PaintsHours : Prop :=
  ∀ s : State, ∃ t, exec .tick s = .next t ∧
    (0 < t.displayCounter → t.displayCounter ≤ s.params.tps →
      t.displayStatus = s.modeToShow ∧ t.busEn = true ∧ t.alt = otherSlot s.alt ∧ t.Shows s.nextSlot ∧
      (s.modeToShow = .time ∨ s.modeToShow = .both →
        t.pendCode0.val = t.hours.toNat / 10 ∧ t.pendCode1.val = t.hours.toNat % 10) ∧
      (s.modeToShow = .emptyBattery → t.pendCode0 = 10 ∧ t.pendCode1 = 10) ∧
      (s.modeToShow = .time ∨ s.modeToShow = .both ∨ s.modeToShow = .emptyBattery →
        t.pendDot0 = .digit1 ∧ t.pendDot1 = .digit1 ∧
        t.emitted = s.emitted ++ [.busEnable, .setDigit .slot0 t.pendCode0 .digit1,
          .setDigit .slot1 t.pendCode1 .digit1, .update]) ∧
      (s.modeToShow = .idle ∨ s.modeToShow = .charge →
        t.pendCode0 = s.pendCode0 ∧ t.pendCode1 = s.pendCode1 ∧ t.pendDot0 = s.pendDot0 ∧
        t.pendDot1 = s.pendDot1 ∧ t.emitted = s.emitted ++ [.busEnable, .update]))

/-- R140: quarter 2 does with the minutes and the dot of tube 2 what quarter 1 does with the hours and that of
tube 1. -/
def Obligations.Quarter2PaintsMinutes : Prop :=
  ∀ s : State, ∃ t, exec .tick s = .next t ∧
    (s.params.tps < t.displayCounter → t.displayCounter ≤ 2 * s.params.tps →
      t.displayStatus = s.modeToShow ∧ t.busEn = true ∧ t.alt = otherSlot s.alt ∧ t.Shows s.nextSlot ∧
      (s.modeToShow = .time ∨ s.modeToShow = .both →
        t.pendCode0.val = t.minutes.toNat / 10 ∧ t.pendCode1.val = t.minutes.toNat % 10) ∧
      (s.modeToShow = .emptyBattery → t.pendCode0 = 10 ∧ t.pendCode1 = 10) ∧
      (s.modeToShow = .time ∨ s.modeToShow = .both ∨ s.modeToShow = .emptyBattery →
        t.pendDot0 = .digit2 ∧ t.pendDot1 = .digit2 ∧
        t.emitted = s.emitted ++ [.busEnable, .setDigit .slot0 t.pendCode0 .digit2,
          .setDigit .slot1 t.pendCode1 .digit2, .update]) ∧
      (s.modeToShow = .idle ∨ s.modeToShow = .charge →
        t.pendCode0 = s.pendCode0 ∧ t.pendCode1 = s.pendCode1 ∧ t.pendDot0 = s.pendDot0 ∧
        t.pendDot1 = s.pendDot1 ∧ t.emitted = s.emitted ++ [.busEnable, .update]))

/-- R141: in quarter 3 a TICK shows the gauge on both slots in mode Both, and in every other mode emits nothing and
leaves the mux and its lines as they were. -/
def Obligations.Quarter3PaintsGauge : Prop :=
  ∀ s : State, ∃ t, exec .tick s = .next t ∧
    (2 * s.params.tps < t.displayCounter → t.displayCounter ≤ 3 * s.params.tps →
      t.displayStatus = s.modeToShow ∧
      (s.modeToShow = .both →
        t.pendCode0.val = min 16 (10 + s.chargeLevel.toNat / 16) ∧ t.pendCode1 = t.pendCode0 ∧
        t.pendDot0 = .off ∧ t.pendDot1 = .off ∧ t.busEn = true ∧ t.alt = otherSlot s.alt ∧
        t.Shows s.nextSlot ∧
        t.emitted = s.emitted ++ [.busEnable, .setDigit .slot0 t.pendCode0 .off,
          .setDigit .slot1 t.pendCode0 .off, .update]) ∧
      (s.modeToShow ≠ .both → s.SameMux t ∧ t.emitted = s.emitted))

/-- R142: beyond quarter 3 every TICK turns the outputs off and resets the mode to Idle; what is pending stays. -/
def Obligations.Quarter4TurnsTheDisplayOff : Prop :=
  ∀ s : State, ∃ t, exec .tick s = .next t ∧
    (3 * s.params.tps < t.displayCounter →
      t.displayStatus = .idle ∧ t.Dark ∧ t.emitted = s.emitted ++ [.off] ∧ t.alt = s.alt ∧
      t.pendCode0 = s.pendCode0 ∧ t.pendCode1 = s.pendCode1 ∧ t.pendDot0 = s.pendDot0 ∧
      t.pendDot1 = s.pendDot1 ∧
      (s.displayCounter < 4 * s.params.tps → t.displaying = true))

/-- Which micro-operations a TICK emits depends only on the display counter and the mode it dispatches on, TPS, the
time it leaves and the charge level (41_tick R146). -/
def Obligations.SliceSelectionIsPure : Prop :=
  ∀ s₁ s₂ t₁ t₂ : State, exec .tick s₁ = .next t₁ → exec .tick s₂ = .next t₂ →
    s₁.params.tps = s₂.params.tps → t₁.displayCounter = t₂.displayCounter → s₁.modeToShow = s₂.modeToShow →
    t₁.hours = t₂.hours → t₁.minutes = t₂.minutes → s₁.chargeLevel = s₂.chargeLevel →
    s₁.emitted = [] → s₂.emitted = [] → t₁.emitted = t₂.emitted

/-- In mode Charge a TICK writes no pending slot: quarters 1 and 2 render what is already pending, under the next
slot (41_tick R143). -/
def Obligations.ChargeModeShowsStaleContent : Prop :=
  ∀ s : State, s.modeToShow = .charge → ∃ t, exec .tick s = .next t ∧
    t.pendCode0 = s.pendCode0 ∧ t.pendCode1 = s.pendCode1 ∧ t.pendDot0 = s.pendDot0 ∧
    t.pendDot1 = s.pendDot1 ∧
    (0 < t.displayCounter → t.displayCounter ≤ 2 * s.params.tps →
      t.busEn = true ∧ t.seg = s.params.segTable.get (s.pendCode s.nextSlot) ∧ t.an = anodeOf s.nextSlot)

/-- Every micro-operation the engine can emit is legal: its instruction is well formed, and its format U word decodes
to that instruction (30_encoding R82; notes/assumptions/11.md for the types that make it so). -/
def Obligations.MicroOperationsAreLegalWords : Prop :=
  ∀ u : MicroOp, (instrOf u).wf = true ∧ (instrOf u).port = .mux ∧
    decode .mux (encode (instrOf u)) = .ok (instrOf u)

/-- The digits a TICK shows of a legal time are decimal digits in their ranges, and the gauge is in 10 to 16
(41_tick R145). -/
def Obligations.ShownDigitsAreInRange : Prop :=
  ∀ s : State, s.WallLegal → s.modeToShow = .time ∨ s.modeToShow = .both →
    ∃ t, exec .tick s = .next t ∧
      (0 < t.displayCounter → t.displayCounter ≤ s.params.tps →
        t.pendCode0.val ≤ 2 ∧ t.pendCode1.val ≤ 9) ∧
      (s.params.tps < t.displayCounter → t.displayCounter ≤ 2 * s.params.tps →
        t.pendCode0.val ≤ 5 ∧ t.pendCode1.val ≤ 9) ∧
      (s.modeToShow = .both → 2 * s.params.tps < t.displayCounter → t.displayCounter ≤ 3 * s.params.tps →
        10 ≤ t.pendCode0.val ∧ 10 ≤ t.pendCode1.val)

/-- Emitting a micro-operation has the effect of its instruction on the mux, and joins the trace (00_scope R14,
20_memory R60). -/
def Obligations.EmitHasTheEffectOfTheInstruction : Prop :=
  ∀ (s : State) (u : MicroOp),
    exec (instrOf u) s = .next { s.emit u with emitted := s.emitted } ∧
      (s.emit u).emitted = s.emitted ++ [u]

/-- A pending request, then `n` TICKs: the requested mode is shown with the bus enabled up to TICK `3*TPS`, after
which the mode is Idle and every line is low; the counter is `n` and the display is "displaying" up to TICK `4*TPS`,
after which both rest (41_tick R134, R135, R138 to R142). That "displaying" falls on the TICK after the one that reaches
the bound is the spec's own reading of its source (D13), and the model's choice with it: notes/assumptions/18.md. -/
def Obligations.DisplayCycleRunsItsFourQuarters : Prop :=
  ∀ (n : Nat) (s : State), s.displayNewStatus ≠ .idle → 1 ≤ n →
    ∃ t, execTimes .tick n s = .next t ∧
      (n ≤ 4 * s.params.tps → t.displayCounter = n ∧ t.displaying = true) ∧
      (4 * s.params.tps < n → t.displayCounter = 4 * s.params.tps ∧ t.displaying = false) ∧
      (n ≤ 3 * s.params.tps → t.displayStatus = s.displayNewStatus ∧ t.busEn = true) ∧
      (3 * s.params.tps < n → t.displayStatus = .idle ∧ t.Dark)

/-! ## Assembly -/

/-- The line written for an instruction assembles to it. Every instruction has a line, a SET_TIME out of range among
them, but a SET_DIGIT whose dot is 3, which has no name and so no line (30_encoding R86). -/
def Obligations.AssembledLineIsTheInstruction : Prop :=
  ∀ (p : Params) (i : Instr),
    (∀ l, lineOf i = some l → assembleLine p l = some [i]) ∧
    ((∃ l, lineOf i = some l) ↔ ∀ (slot : Slot) (code : BitVec 5), i ≠ .setDigit slot code 3)

/-- `TICKS n`, for every `n` from 1 on, assembles to `n` TICKs, each the word `0x1000`, `TICKS 0` is no line, and
`CYCLE` assembles to `TICKS 4*TPS` (30_encoding R87). -/
def Obligations.PseudoInstructionsExpandToTicks : Prop :=
  (∀ (p : Params) (n : Nat), 1 ≤ n →
    assembleLine p ("TICKS ".toList ++ decimalText n) = some (ticksPseudo n) ∧
    (assembleLine p ("TICKS ".toList ++ decimalText n)).map assembledWords =
      some (List.replicate n 0x1000)) ∧
  (∀ p : Params, assembleLine p "TICKS 0".toList = none) ∧
  (∀ p : Params, assembleLine p "CYCLE".toList = some (ticksPseudo (4 * p.tps)))
end

