-- ==== Sys2Proof/Laws/Assembly.lean ====
section
/-! SUPPORT. What the assembler's readers do with a decimal number (30_encoding R86). -/

namespace Sys2Proof.Machine

theorem decimalFrom_append (acc : Nat) (cs ds : List Char) :
    decimalFrom acc (cs ++ ds) = (decimalFrom acc cs).bind fun n => decimalFrom n ds := by
  induction cs generalizing acc with
  | nil => rfl
  | cons c cs ih =>
    simp only [List.cons_append, decimalFrom]
    cases digitValue c <;> simp [ih]

/-- One decimal digit is read back. -/
theorem digitValue_digitChar (d : Nat) (h : d < 10) : digitValue d.digitChar = some d := by
  revert h
  revert d
  decide

/-- A decimal number is read back. -/
@[simp] theorem decimalFrom_decimalText (n : Nat) : decimalFrom 0 (decimalText n) = some n := by
  induction n using Nat.strong_induction_on with
  | _ n ih =>
    unfold decimalText at *
    rcases Nat.lt_or_ge n 10 with h | h
    · simp [Nat.toDigits_of_lt_base h, decimalFrom, digitValue_digitChar n h]
    · have hd := digitValue_digitChar (n % 10) (Nat.mod_lt n (by omega))
      rw [Nat.toDigits_of_base_le (by omega) h, decimalFrom_append, ih (n / 10) (by omega)]
      simp only [Option.bind_some, decimalFrom, hd, Option.some.injEq]
      omega

@[simp] theorem decimalText_ne_nil (n : Nat) : decimalText n ≠ [] := by
  unfold decimalText
  rcases Nat.lt_or_ge n 10 with h | h
  · simp [Nat.toDigits_of_lt_base h]
  · simp [Nat.toDigits_of_base_le (by omega : 1 < 10) h]

/-- A decimal number has no blank, comma or semicolon in it, so no reader cuts it. -/
theorem decimalText_separators (n : Nat) (c : Char) (h : c ∈ decimalText n) : c ≠ ' ' ∧ c ≠ ',' ∧ c ≠ ';' := by
  have hd : c.isDigit = true := Nat.isDigit_of_mem_toDigits (by omega) (by omega) h
  refine ⟨?_, ?_, ?_⟩ <;> rintro rfl <;> simp [Char.isDigit] at hd

/-- A decimal operand below its bound is read back. -/
theorem readDecimal_decimalText (bound n : Nat) (h : n < bound) :
    readDecimal bound (decimalText n) = some n := by
  simp [readDecimal, h]

/-- Text with no blank at either end is left as it is. -/
theorem trimBlanks_of_no_blank_ends (cs : List Char) (hh : cs.head? ≠ some ' ') (hl : cs.getLast? ≠ some ' ') :
    trimBlanks cs = cs := by
  have drop : ∀ ds : List Char, ds.head? ≠ some ' ' → ds.dropWhile (· == ' ') = ds := by
    intro ds h
    cases ds with
    | nil => rfl
    | cons d ds =>
      have hd : (d == ' ') = false := by simpa using h
      simp [List.dropWhile, hd]
  unfold trimBlanks
  rw [drop cs hh, drop cs.reverse (by rwa [List.head?_reverse]), List.reverse_reverse]

/-- Text with no comma is one operand. -/
theorem splitCommas_of_no_comma (cs : List Char) (h : ',' ∉ cs) : splitCommas cs = [cs] := by
  induction cs with
  | nil => rfl
  | cons c cs ih =>
    simp only [List.mem_cons, not_or] at h
    have hc : (c == ',') = false := by simpa using Ne.symm h.1
    simp [splitCommas, hc, ih h.2]

end Sys2Proof.Machine
end

