-- ==== Sys2Proof/Laws/State.lean ====
section
/-! SUPPORT. For each update of the state, what it leaves in every field. -/

namespace Sys2Proof.Machine

variable (s : State)

@[simp] theorem State.raise_params (c : FaultCode) (w : Word) : (s.raise c w).params = s.params := rfl
@[simp] theorem State.raise_hours (c : FaultCode) (w : Word) : (s.raise c w).hours = s.hours := rfl
@[simp] theorem State.raise_minutes (c : FaultCode) (w : Word) : (s.raise c w).minutes = s.minutes := rfl
@[simp] theorem State.raise_seconds (c : FaultCode) (w : Word) : (s.raise c w).seconds = s.seconds := rfl
@[simp] theorem State.raise_currentTick (c : FaultCode) (w : Word) : (s.raise c w).currentTick = s.currentTick :=
    rfl
@[simp] theorem State.raise_displayStatus (c : FaultCode) (w : Word) : (s.raise c w).displayStatus = s.displayStatus :=
    rfl
@[simp] theorem State.raise_displayNewStatus (c : FaultCode) (w : Word) : (s.raise c w).displayNewStatus = s.displayNewStatus :=
    rfl
@[simp] theorem State.raise_displaying (c : FaultCode) (w : Word) : (s.raise c w).displaying = s.displaying :=
    rfl
@[simp] theorem State.raise_displayCounter (c : FaultCode) (w : Word) : (s.raise c w).displayCounter = s.displayCounter :=
    rfl
@[simp] theorem State.raise_chargeLevel (c : FaultCode) (w : Word) : (s.raise c w).chargeLevel = s.chargeLevel :=
    rfl
@[simp] theorem State.raise_pendCode0 (c : FaultCode) (w : Word) : (s.raise c w).pendCode0 = s.pendCode0 :=
    rfl
@[simp] theorem State.raise_pendCode1 (c : FaultCode) (w : Word) : (s.raise c w).pendCode1 = s.pendCode1 :=
    rfl
@[simp] theorem State.raise_pendDot0 (c : FaultCode) (w : Word) : (s.raise c w).pendDot0 = s.pendDot0 := rfl
@[simp] theorem State.raise_pendDot1 (c : FaultCode) (w : Word) : (s.raise c w).pendDot1 = s.pendDot1 := rfl
@[simp] theorem State.raise_alt (c : FaultCode) (w : Word) : (s.raise c w).alt = s.alt := rfl
@[simp] theorem State.raise_seg (c : FaultCode) (w : Word) : (s.raise c w).seg = s.seg := rfl
@[simp] theorem State.raise_an (c : FaultCode) (w : Word) : (s.raise c w).an = s.an := rfl
@[simp] theorem State.raise_dp (c : FaultCode) (w : Word) : (s.raise c w).dp = s.dp := rfl
@[simp] theorem State.raise_busEn (c : FaultCode) (w : Word) : (s.raise c w).busEn = s.busEn := rfl
@[simp] theorem State.raise_fault (c : FaultCode) (w : Word) : (s.raise c w).fault = some ⟨c, w⟩ := rfl
@[simp] theorem State.raise_events (c : FaultCode) (w : Word) : (s.raise c w).events = s.events := rfl
@[simp] theorem State.raise_response (c : FaultCode) (w : Word) : (s.raise c w).response = s.response := rfl
@[simp] theorem State.raise_emitted (c : FaultCode) (w : Word) : (s.raise c w).emitted = s.emitted := rfl

@[simp] theorem State.respond_params (v : Word) : (s.respond v).params = s.params := rfl
@[simp] theorem State.respond_hours (v : Word) : (s.respond v).hours = s.hours := rfl
@[simp] theorem State.respond_minutes (v : Word) : (s.respond v).minutes = s.minutes := rfl
@[simp] theorem State.respond_seconds (v : Word) : (s.respond v).seconds = s.seconds := rfl
@[simp] theorem State.respond_currentTick (v : Word) : (s.respond v).currentTick = s.currentTick := rfl
@[simp] theorem State.respond_displayStatus (v : Word) : (s.respond v).displayStatus = s.displayStatus := rfl
@[simp] theorem State.respond_displayNewStatus (v : Word) : (s.respond v).displayNewStatus = s.displayNewStatus :=
    rfl
@[simp] theorem State.respond_displaying (v : Word) : (s.respond v).displaying = s.displaying := rfl
@[simp] theorem State.respond_displayCounter (v : Word) : (s.respond v).displayCounter = s.displayCounter :=
    rfl
@[simp] theorem State.respond_chargeLevel (v : Word) : (s.respond v).chargeLevel = s.chargeLevel := rfl
@[simp] theorem State.respond_pendCode0 (v : Word) : (s.respond v).pendCode0 = s.pendCode0 := rfl
@[simp] theorem State.respond_pendCode1 (v : Word) : (s.respond v).pendCode1 = s.pendCode1 := rfl
@[simp] theorem State.respond_pendDot0 (v : Word) : (s.respond v).pendDot0 = s.pendDot0 := rfl
@[simp] theorem State.respond_pendDot1 (v : Word) : (s.respond v).pendDot1 = s.pendDot1 := rfl
@[simp] theorem State.respond_alt (v : Word) : (s.respond v).alt = s.alt := rfl
@[simp] theorem State.respond_seg (v : Word) : (s.respond v).seg = s.seg := rfl
@[simp] theorem State.respond_an (v : Word) : (s.respond v).an = s.an := rfl
@[simp] theorem State.respond_dp (v : Word) : (s.respond v).dp = s.dp := rfl
@[simp] theorem State.respond_busEn (v : Word) : (s.respond v).busEn = s.busEn := rfl
@[simp] theorem State.respond_fault (v : Word) : (s.respond v).fault = s.fault := rfl
@[simp] theorem State.respond_events (v : Word) : (s.respond v).events = s.events := rfl
@[simp] theorem State.respond_response (v : Word) : (s.respond v).response = some v := rfl
@[simp] theorem State.respond_emitted (v : Word) : (s.respond v).emitted = s.emitted := rfl

@[simp] theorem State.request_params (m : DisplayMode) : (s.request m).params = s.params := rfl
@[simp] theorem State.request_hours (m : DisplayMode) : (s.request m).hours = s.hours := rfl
@[simp] theorem State.request_minutes (m : DisplayMode) : (s.request m).minutes = s.minutes := rfl
@[simp] theorem State.request_seconds (m : DisplayMode) : (s.request m).seconds = s.seconds := rfl
@[simp] theorem State.request_currentTick (m : DisplayMode) : (s.request m).currentTick = s.currentTick := rfl
@[simp] theorem State.request_displayStatus (m : DisplayMode) : (s.request m).displayStatus = s.displayStatus :=
    rfl
@[simp] theorem State.request_displayNewStatus (m : DisplayMode) : (s.request m).displayNewStatus = m := rfl
@[simp] theorem State.request_displaying (m : DisplayMode) : (s.request m).displaying = s.displaying := rfl
@[simp] theorem State.request_displayCounter (m : DisplayMode) : (s.request m).displayCounter = s.displayCounter :=
    rfl
@[simp] theorem State.request_chargeLevel (m : DisplayMode) : (s.request m).chargeLevel = s.chargeLevel := rfl
@[simp] theorem State.request_pendCode0 (m : DisplayMode) : (s.request m).pendCode0 = s.pendCode0 := rfl
@[simp] theorem State.request_pendCode1 (m : DisplayMode) : (s.request m).pendCode1 = s.pendCode1 := rfl
@[simp] theorem State.request_pendDot0 (m : DisplayMode) : (s.request m).pendDot0 = s.pendDot0 := rfl
@[simp] theorem State.request_pendDot1 (m : DisplayMode) : (s.request m).pendDot1 = s.pendDot1 := rfl
@[simp] theorem State.request_alt (m : DisplayMode) : (s.request m).alt = s.alt := rfl
@[simp] theorem State.request_seg (m : DisplayMode) : (s.request m).seg = s.seg := rfl
@[simp] theorem State.request_an (m : DisplayMode) : (s.request m).an = s.an := rfl
@[simp] theorem State.request_dp (m : DisplayMode) : (s.request m).dp = s.dp := rfl
@[simp] theorem State.request_busEn (m : DisplayMode) : (s.request m).busEn = s.busEn := rfl
@[simp] theorem State.request_fault (m : DisplayMode) : (s.request m).fault = s.fault := rfl
@[simp] theorem State.request_events (m : DisplayMode) : (s.request m).events = s.events := rfl
@[simp] theorem State.request_response (m : DisplayMode) : (s.request m).response = s.response := rfl
@[simp] theorem State.request_emitted (m : DisplayMode) : (s.request m).emitted = s.emitted := rfl

@[simp] theorem State.toggleAlt_params : (s.toggleAlt).params = s.params := rfl
@[simp] theorem State.toggleAlt_hours : (s.toggleAlt).hours = s.hours := rfl
@[simp] theorem State.toggleAlt_minutes : (s.toggleAlt).minutes = s.minutes := rfl
@[simp] theorem State.toggleAlt_seconds : (s.toggleAlt).seconds = s.seconds := rfl
@[simp] theorem State.toggleAlt_currentTick : (s.toggleAlt).currentTick = s.currentTick := rfl
@[simp] theorem State.toggleAlt_displayStatus : (s.toggleAlt).displayStatus = s.displayStatus := rfl
@[simp] theorem State.toggleAlt_displayNewStatus : (s.toggleAlt).displayNewStatus = s.displayNewStatus := rfl
@[simp] theorem State.toggleAlt_displaying : (s.toggleAlt).displaying = s.displaying := rfl
@[simp] theorem State.toggleAlt_displayCounter : (s.toggleAlt).displayCounter = s.displayCounter := rfl
@[simp] theorem State.toggleAlt_chargeLevel : (s.toggleAlt).chargeLevel = s.chargeLevel := rfl
@[simp] theorem State.toggleAlt_pendCode0 : (s.toggleAlt).pendCode0 = s.pendCode0 := rfl
@[simp] theorem State.toggleAlt_pendCode1 : (s.toggleAlt).pendCode1 = s.pendCode1 := rfl
@[simp] theorem State.toggleAlt_pendDot0 : (s.toggleAlt).pendDot0 = s.pendDot0 := rfl
@[simp] theorem State.toggleAlt_pendDot1 : (s.toggleAlt).pendDot1 = s.pendDot1 := rfl
@[simp] theorem State.toggleAlt_alt : (s.toggleAlt).alt = otherSlot s.alt := rfl
@[simp] theorem State.toggleAlt_seg : (s.toggleAlt).seg = s.seg := rfl
@[simp] theorem State.toggleAlt_an : (s.toggleAlt).an = s.an := rfl
@[simp] theorem State.toggleAlt_dp : (s.toggleAlt).dp = s.dp := rfl
@[simp] theorem State.toggleAlt_busEn : (s.toggleAlt).busEn = s.busEn := rfl
@[simp] theorem State.toggleAlt_fault : (s.toggleAlt).fault = s.fault := rfl
@[simp] theorem State.toggleAlt_events : (s.toggleAlt).events = s.events := rfl
@[simp] theorem State.toggleAlt_response : (s.toggleAlt).response = s.response := rfl
@[simp] theorem State.toggleAlt_emitted : (s.toggleAlt).emitted = s.emitted := rfl

@[simp] theorem State.driveLow_params : (s.driveLow).params = s.params := rfl
@[simp] theorem State.driveLow_hours : (s.driveLow).hours = s.hours := rfl
@[simp] theorem State.driveLow_minutes : (s.driveLow).minutes = s.minutes := rfl
@[simp] theorem State.driveLow_seconds : (s.driveLow).seconds = s.seconds := rfl
@[simp] theorem State.driveLow_currentTick : (s.driveLow).currentTick = s.currentTick := rfl
@[simp] theorem State.driveLow_displayStatus : (s.driveLow).displayStatus = s.displayStatus := rfl
@[simp] theorem State.driveLow_displayNewStatus : (s.driveLow).displayNewStatus = s.displayNewStatus := rfl
@[simp] theorem State.driveLow_displaying : (s.driveLow).displaying = s.displaying := rfl
@[simp] theorem State.driveLow_displayCounter : (s.driveLow).displayCounter = s.displayCounter := rfl
@[simp] theorem State.driveLow_chargeLevel : (s.driveLow).chargeLevel = s.chargeLevel := rfl
@[simp] theorem State.driveLow_pendCode0 : (s.driveLow).pendCode0 = s.pendCode0 := rfl
@[simp] theorem State.driveLow_pendCode1 : (s.driveLow).pendCode1 = s.pendCode1 := rfl
@[simp] theorem State.driveLow_pendDot0 : (s.driveLow).pendDot0 = s.pendDot0 := rfl
@[simp] theorem State.driveLow_pendDot1 : (s.driveLow).pendDot1 = s.pendDot1 := rfl
@[simp] theorem State.driveLow_alt : (s.driveLow).alt = s.alt := rfl
@[simp] theorem State.driveLow_seg : (s.driveLow).seg = s.seg := rfl
@[simp] theorem State.driveLow_an : (s.driveLow).an = 0 := rfl
@[simp] theorem State.driveLow_dp : (s.driveLow).dp = false := rfl
@[simp] theorem State.driveLow_busEn : (s.driveLow).busEn = s.busEn := rfl
@[simp] theorem State.driveLow_fault : (s.driveLow).fault = s.fault := rfl
@[simp] theorem State.driveLow_events : (s.driveLow).events = s.events := rfl
@[simp] theorem State.driveLow_response : (s.driveLow).response = s.response := rfl
@[simp] theorem State.driveLow_emitted : (s.driveLow).emitted = s.emitted := rfl

@[simp] theorem State.driveSegments_params (sl : Slot) : (s.driveSegments sl).params = s.params := rfl
@[simp] theorem State.driveSegments_hours (sl : Slot) : (s.driveSegments sl).hours = s.hours := rfl
@[simp] theorem State.driveSegments_minutes (sl : Slot) : (s.driveSegments sl).minutes = s.minutes := rfl
@[simp] theorem State.driveSegments_seconds (sl : Slot) : (s.driveSegments sl).seconds = s.seconds := rfl
@[simp] theorem State.driveSegments_currentTick (sl : Slot) : (s.driveSegments sl).currentTick = s.currentTick :=
    rfl
@[simp] theorem State.driveSegments_displayStatus (sl : Slot) : (s.driveSegments sl).displayStatus = s.displayStatus :=
    rfl
@[simp] theorem State.driveSegments_displayNewStatus (sl : Slot) : (s.driveSegments sl).displayNewStatus = s.displayNewStatus :=
    rfl
@[simp] theorem State.driveSegments_displaying (sl : Slot) : (s.driveSegments sl).displaying = s.displaying :=
    rfl
@[simp] theorem State.driveSegments_displayCounter (sl : Slot) : (s.driveSegments sl).displayCounter = s.displayCounter :=
    rfl
@[simp] theorem State.driveSegments_chargeLevel (sl : Slot) : (s.driveSegments sl).chargeLevel = s.chargeLevel :=
    rfl
@[simp] theorem State.driveSegments_pendCode0 (sl : Slot) : (s.driveSegments sl).pendCode0 = s.pendCode0 :=
    rfl
@[simp] theorem State.driveSegments_pendCode1 (sl : Slot) : (s.driveSegments sl).pendCode1 = s.pendCode1 :=
    rfl
@[simp] theorem State.driveSegments_pendDot0 (sl : Slot) : (s.driveSegments sl).pendDot0 = s.pendDot0 := rfl
@[simp] theorem State.driveSegments_pendDot1 (sl : Slot) : (s.driveSegments sl).pendDot1 = s.pendDot1 := rfl
@[simp] theorem State.driveSegments_alt (sl : Slot) : (s.driveSegments sl).alt = s.alt := rfl
@[simp] theorem State.driveSegments_seg (sl : Slot) : (s.driveSegments sl).seg = s.segRom (s.pendCode sl) :=
    rfl
@[simp] theorem State.driveSegments_an (sl : Slot) : (s.driveSegments sl).an = s.an := rfl
@[simp] theorem State.driveSegments_dp (sl : Slot) : (s.driveSegments sl).dp = s.dp := rfl
@[simp] theorem State.driveSegments_busEn (sl : Slot) : (s.driveSegments sl).busEn = s.busEn := rfl
@[simp] theorem State.driveSegments_fault (sl : Slot) : (s.driveSegments sl).fault = s.fault := rfl
@[simp] theorem State.driveSegments_events (sl : Slot) : (s.driveSegments sl).events = s.events := rfl
@[simp] theorem State.driveSegments_response (sl : Slot) : (s.driveSegments sl).response = s.response := rfl
@[simp] theorem State.driveSegments_emitted (sl : Slot) : (s.driveSegments sl).emitted = s.emitted := rfl

@[simp] theorem State.driveSlot_params (sl : Slot) : (s.driveSlot sl).params = s.params := rfl
@[simp] theorem State.driveSlot_hours (sl : Slot) : (s.driveSlot sl).hours = s.hours := rfl
@[simp] theorem State.driveSlot_minutes (sl : Slot) : (s.driveSlot sl).minutes = s.minutes := rfl
@[simp] theorem State.driveSlot_seconds (sl : Slot) : (s.driveSlot sl).seconds = s.seconds := rfl
@[simp] theorem State.driveSlot_currentTick (sl : Slot) : (s.driveSlot sl).currentTick = s.currentTick := rfl
@[simp] theorem State.driveSlot_displayStatus (sl : Slot) : (s.driveSlot sl).displayStatus = s.displayStatus :=
    rfl
@[simp] theorem State.driveSlot_displayNewStatus (sl : Slot) : (s.driveSlot sl).displayNewStatus = s.displayNewStatus :=
    rfl
@[simp] theorem State.driveSlot_displaying (sl : Slot) : (s.driveSlot sl).displaying = s.displaying := rfl
@[simp] theorem State.driveSlot_displayCounter (sl : Slot) : (s.driveSlot sl).displayCounter = s.displayCounter :=
    rfl
@[simp] theorem State.driveSlot_chargeLevel (sl : Slot) : (s.driveSlot sl).chargeLevel = s.chargeLevel := rfl
@[simp] theorem State.driveSlot_pendCode0 (sl : Slot) : (s.driveSlot sl).pendCode0 = s.pendCode0 := rfl
@[simp] theorem State.driveSlot_pendCode1 (sl : Slot) : (s.driveSlot sl).pendCode1 = s.pendCode1 := rfl
@[simp] theorem State.driveSlot_pendDot0 (sl : Slot) : (s.driveSlot sl).pendDot0 = s.pendDot0 := rfl
@[simp] theorem State.driveSlot_pendDot1 (sl : Slot) : (s.driveSlot sl).pendDot1 = s.pendDot1 := rfl
@[simp] theorem State.driveSlot_alt (sl : Slot) : (s.driveSlot sl).alt = s.alt := rfl
@[simp] theorem State.driveSlot_seg (sl : Slot) : (s.driveSlot sl).seg = s.seg := rfl
@[simp] theorem State.driveSlot_an (sl : Slot) : (s.driveSlot sl).an = s.an ||| anodeOf sl := rfl
@[simp] theorem State.driveSlot_dp (sl : Slot) : (s.driveSlot sl).dp = (s.pendDot sl == dotOf sl) := rfl
@[simp] theorem State.driveSlot_busEn (sl : Slot) : (s.driveSlot sl).busEn = s.busEn := rfl
@[simp] theorem State.driveSlot_fault (sl : Slot) : (s.driveSlot sl).fault = s.fault := rfl
@[simp] theorem State.driveSlot_events (sl : Slot) : (s.driveSlot sl).events = s.events := rfl
@[simp] theorem State.driveSlot_response (sl : Slot) : (s.driveSlot sl).response = s.response := rfl
@[simp] theorem State.driveSlot_emitted (sl : Slot) : (s.driveSlot sl).emitted = s.emitted := rfl

@[simp] theorem State.outputsOff_params : (s.outputsOff).params = s.params := rfl
@[simp] theorem State.outputsOff_hours : (s.outputsOff).hours = s.hours := rfl
@[simp] theorem State.outputsOff_minutes : (s.outputsOff).minutes = s.minutes := rfl
@[simp] theorem State.outputsOff_seconds : (s.outputsOff).seconds = s.seconds := rfl
@[simp] theorem State.outputsOff_currentTick : (s.outputsOff).currentTick = s.currentTick := rfl
@[simp] theorem State.outputsOff_displayStatus : (s.outputsOff).displayStatus = s.displayStatus := rfl
@[simp] theorem State.outputsOff_displayNewStatus : (s.outputsOff).displayNewStatus = s.displayNewStatus :=
    rfl
@[simp] theorem State.outputsOff_displaying : (s.outputsOff).displaying = s.displaying := rfl
@[simp] theorem State.outputsOff_displayCounter : (s.outputsOff).displayCounter = s.displayCounter := rfl
@[simp] theorem State.outputsOff_chargeLevel : (s.outputsOff).chargeLevel = s.chargeLevel := rfl
@[simp] theorem State.outputsOff_pendCode0 : (s.outputsOff).pendCode0 = s.pendCode0 := rfl
@[simp] theorem State.outputsOff_pendCode1 : (s.outputsOff).pendCode1 = s.pendCode1 := rfl
@[simp] theorem State.outputsOff_pendDot0 : (s.outputsOff).pendDot0 = s.pendDot0 := rfl
@[simp] theorem State.outputsOff_pendDot1 : (s.outputsOff).pendDot1 = s.pendDot1 := rfl
@[simp] theorem State.outputsOff_alt : (s.outputsOff).alt = s.alt := rfl
@[simp] theorem State.outputsOff_seg : (s.outputsOff).seg = 0 := rfl
@[simp] theorem State.outputsOff_an : (s.outputsOff).an = 0 := rfl
@[simp] theorem State.outputsOff_dp : (s.outputsOff).dp = false := rfl
@[simp] theorem State.outputsOff_busEn : (s.outputsOff).busEn = false := rfl
@[simp] theorem State.outputsOff_fault : (s.outputsOff).fault = s.fault := rfl
@[simp] theorem State.outputsOff_events : (s.outputsOff).events = s.events := rfl
@[simp] theorem State.outputsOff_response : (s.outputsOff).response = s.response := rfl
@[simp] theorem State.outputsOff_emitted : (s.outputsOff).emitted = s.emitted := rfl

@[simp] theorem State.enableBus_params : (s.enableBus).params = s.params := rfl
@[simp] theorem State.enableBus_hours : (s.enableBus).hours = s.hours := rfl
@[simp] theorem State.enableBus_minutes : (s.enableBus).minutes = s.minutes := rfl
@[simp] theorem State.enableBus_seconds : (s.enableBus).seconds = s.seconds := rfl
@[simp] theorem State.enableBus_currentTick : (s.enableBus).currentTick = s.currentTick := rfl
@[simp] theorem State.enableBus_displayStatus : (s.enableBus).displayStatus = s.displayStatus := rfl
@[simp] theorem State.enableBus_displayNewStatus : (s.enableBus).displayNewStatus = s.displayNewStatus := rfl
@[simp] theorem State.enableBus_displaying : (s.enableBus).displaying = s.displaying := rfl
@[simp] theorem State.enableBus_displayCounter : (s.enableBus).displayCounter = s.displayCounter := rfl
@[simp] theorem State.enableBus_chargeLevel : (s.enableBus).chargeLevel = s.chargeLevel := rfl
@[simp] theorem State.enableBus_pendCode0 : (s.enableBus).pendCode0 = s.pendCode0 := rfl
@[simp] theorem State.enableBus_pendCode1 : (s.enableBus).pendCode1 = s.pendCode1 := rfl
@[simp] theorem State.enableBus_pendDot0 : (s.enableBus).pendDot0 = s.pendDot0 := rfl
@[simp] theorem State.enableBus_pendDot1 : (s.enableBus).pendDot1 = s.pendDot1 := rfl
@[simp] theorem State.enableBus_alt : (s.enableBus).alt = s.alt := rfl
@[simp] theorem State.enableBus_seg : (s.enableBus).seg = s.seg := rfl
@[simp] theorem State.enableBus_an : (s.enableBus).an = s.an := rfl
@[simp] theorem State.enableBus_dp : (s.enableBus).dp = s.dp := rfl
@[simp] theorem State.enableBus_busEn : (s.enableBus).busEn = true := rfl
@[simp] theorem State.enableBus_fault : (s.enableBus).fault = s.fault := rfl
@[simp] theorem State.enableBus_events : (s.enableBus).events = s.events := rfl
@[simp] theorem State.enableBus_response : (s.enableBus).response = s.response := rfl
@[simp] theorem State.enableBus_emitted : (s.enableBus).emitted = s.emitted := rfl

@[simp] theorem State.clearPorts_params : (s.clearPorts).params = s.params := rfl
@[simp] theorem State.clearPorts_hours : (s.clearPorts).hours = s.hours := rfl
@[simp] theorem State.clearPorts_minutes : (s.clearPorts).minutes = s.minutes := rfl
@[simp] theorem State.clearPorts_seconds : (s.clearPorts).seconds = s.seconds := rfl
@[simp] theorem State.clearPorts_currentTick : (s.clearPorts).currentTick = s.currentTick := rfl
@[simp] theorem State.clearPorts_displayStatus : (s.clearPorts).displayStatus = s.displayStatus := rfl
@[simp] theorem State.clearPorts_displayNewStatus : (s.clearPorts).displayNewStatus = s.displayNewStatus :=
    rfl
@[simp] theorem State.clearPorts_displaying : (s.clearPorts).displaying = s.displaying := rfl
@[simp] theorem State.clearPorts_displayCounter : (s.clearPorts).displayCounter = s.displayCounter := rfl
@[simp] theorem State.clearPorts_chargeLevel : (s.clearPorts).chargeLevel = s.chargeLevel := rfl
@[simp] theorem State.clearPorts_pendCode0 : (s.clearPorts).pendCode0 = s.pendCode0 := rfl
@[simp] theorem State.clearPorts_pendCode1 : (s.clearPorts).pendCode1 = s.pendCode1 := rfl
@[simp] theorem State.clearPorts_pendDot0 : (s.clearPorts).pendDot0 = s.pendDot0 := rfl
@[simp] theorem State.clearPorts_pendDot1 : (s.clearPorts).pendDot1 = s.pendDot1 := rfl
@[simp] theorem State.clearPorts_alt : (s.clearPorts).alt = s.alt := rfl
@[simp] theorem State.clearPorts_seg : (s.clearPorts).seg = s.seg := rfl
@[simp] theorem State.clearPorts_an : (s.clearPorts).an = s.an := rfl
@[simp] theorem State.clearPorts_dp : (s.clearPorts).dp = s.dp := rfl
@[simp] theorem State.clearPorts_busEn : (s.clearPorts).busEn = s.busEn := rfl
@[simp] theorem State.clearPorts_fault : (s.clearPorts).fault = s.fault := rfl
@[simp] theorem State.clearPorts_events : (s.clearPorts).events = s.events := rfl
@[simp] theorem State.clearPorts_response : (s.clearPorts).response = none := rfl
@[simp] theorem State.clearPorts_emitted : (s.clearPorts).emitted = [] := rfl

@[simp] theorem State.begin_params (es : List Event) : (s.begin es).params = s.params := rfl
@[simp] theorem State.begin_hours (es : List Event) : (s.begin es).hours = s.hours := rfl
@[simp] theorem State.begin_minutes (es : List Event) : (s.begin es).minutes = s.minutes := rfl
@[simp] theorem State.begin_seconds (es : List Event) : (s.begin es).seconds = s.seconds := rfl
@[simp] theorem State.begin_currentTick (es : List Event) : (s.begin es).currentTick = s.currentTick := rfl
@[simp] theorem State.begin_displayStatus (es : List Event) : (s.begin es).displayStatus = s.displayStatus :=
    rfl
@[simp] theorem State.begin_displayNewStatus (es : List Event) : (s.begin es).displayNewStatus = s.displayNewStatus :=
    rfl
@[simp] theorem State.begin_displaying (es : List Event) : (s.begin es).displaying = s.displaying := rfl
@[simp] theorem State.begin_displayCounter (es : List Event) : (s.begin es).displayCounter = s.displayCounter :=
    rfl
@[simp] theorem State.begin_chargeLevel (es : List Event) : (s.begin es).chargeLevel = s.chargeLevel := rfl
@[simp] theorem State.begin_pendCode0 (es : List Event) : (s.begin es).pendCode0 = s.pendCode0 := rfl
@[simp] theorem State.begin_pendCode1 (es : List Event) : (s.begin es).pendCode1 = s.pendCode1 := rfl
@[simp] theorem State.begin_pendDot0 (es : List Event) : (s.begin es).pendDot0 = s.pendDot0 := rfl
@[simp] theorem State.begin_pendDot1 (es : List Event) : (s.begin es).pendDot1 = s.pendDot1 := rfl
@[simp] theorem State.begin_alt (es : List Event) : (s.begin es).alt = s.alt := rfl
@[simp] theorem State.begin_seg (es : List Event) : (s.begin es).seg = s.seg := rfl
@[simp] theorem State.begin_an (es : List Event) : (s.begin es).an = s.an := rfl
@[simp] theorem State.begin_dp (es : List Event) : (s.begin es).dp = s.dp := rfl
@[simp] theorem State.begin_busEn (es : List Event) : (s.begin es).busEn = s.busEn := rfl
@[simp] theorem State.begin_fault (es : List Event) : (s.begin es).fault = s.fault := rfl
@[simp] theorem State.begin_events (es : List Event) : (s.begin es).events = es := rfl
@[simp] theorem State.begin_response (es : List Event) : (s.begin es).response = none := rfl
@[simp] theorem State.begin_emitted (es : List Event) : (s.begin es).emitted = [] := rfl

@[simp] theorem State.present_params (b : Bool) (w : Option Word) : (s.present b w).params = s.params := rfl
@[simp] theorem State.present_hours (b : Bool) (w : Option Word) : (s.present b w).hours = s.hours := rfl
@[simp] theorem State.present_minutes (b : Bool) (w : Option Word) : (s.present b w).minutes = s.minutes :=
    rfl
@[simp] theorem State.present_seconds (b : Bool) (w : Option Word) : (s.present b w).seconds = s.seconds :=
    rfl
@[simp] theorem State.present_currentTick (b : Bool) (w : Option Word) : (s.present b w).currentTick = s.currentTick :=
    rfl
@[simp] theorem State.present_displayStatus (b : Bool) (w : Option Word) : (s.present b w).displayStatus = s.displayStatus :=
    rfl
@[simp] theorem State.present_displayNewStatus (b : Bool) (w : Option Word) : (s.present b w).displayNewStatus = s.displayNewStatus :=
    rfl
@[simp] theorem State.present_displaying (b : Bool) (w : Option Word) : (s.present b w).displaying = s.displaying :=
    rfl
@[simp] theorem State.present_displayCounter (b : Bool) (w : Option Word) : (s.present b w).displayCounter = s.displayCounter :=
    rfl
@[simp] theorem State.present_chargeLevel (b : Bool) (w : Option Word) : (s.present b w).chargeLevel = s.chargeLevel :=
    rfl
@[simp] theorem State.present_pendCode0 (b : Bool) (w : Option Word) : (s.present b w).pendCode0 = s.pendCode0 :=
    rfl
@[simp] theorem State.present_pendCode1 (b : Bool) (w : Option Word) : (s.present b w).pendCode1 = s.pendCode1 :=
    rfl
@[simp] theorem State.present_pendDot0 (b : Bool) (w : Option Word) : (s.present b w).pendDot0 = s.pendDot0 :=
    rfl
@[simp] theorem State.present_pendDot1 (b : Bool) (w : Option Word) : (s.present b w).pendDot1 = s.pendDot1 :=
    rfl
@[simp] theorem State.present_alt (b : Bool) (w : Option Word) : (s.present b w).alt = s.alt := rfl
@[simp] theorem State.present_seg (b : Bool) (w : Option Word) : (s.present b w).seg = s.seg := rfl
@[simp] theorem State.present_an (b : Bool) (w : Option Word) : (s.present b w).an = s.an := rfl
@[simp] theorem State.present_dp (b : Bool) (w : Option Word) : (s.present b w).dp = s.dp := rfl
@[simp] theorem State.present_busEn (b : Bool) (w : Option Word) : (s.present b w).busEn = s.busEn := rfl
@[simp] theorem State.present_fault (b : Bool) (w : Option Word) : (s.present b w).fault = s.fault := rfl
@[simp] theorem State.present_events (b : Bool) (w : Option Word) : (s.present b w).events = s.events ++ arrivals b w :=
    rfl
@[simp] theorem State.present_response (b : Bool) (w : Option Word) : (s.present b w).response = s.response :=
    rfl
@[simp] theorem State.present_emitted (b : Bool) (w : Option Word) : (s.present b w).emitted = s.emitted :=
    rfl

@[simp] theorem State.setDigit_slot0_params (c : DigitCode) (d : DotSlot) : (s.setDigit .slot0 c d).params = s.params :=
    rfl
@[simp] theorem State.setDigit_slot0_hours (c : DigitCode) (d : DotSlot) : (s.setDigit .slot0 c d).hours = s.hours :=
    rfl
@[simp] theorem State.setDigit_slot0_minutes (c : DigitCode) (d : DotSlot) : (s.setDigit .slot0 c d).minutes = s.minutes :=
    rfl
@[simp] theorem State.setDigit_slot0_seconds (c : DigitCode) (d : DotSlot) : (s.setDigit .slot0 c d).seconds = s.seconds :=
    rfl
@[simp] theorem State.setDigit_slot0_currentTick (c : DigitCode) (d : DotSlot) : (s.setDigit .slot0 c d).currentTick = s.currentTick :=
    rfl
@[simp] theorem State.setDigit_slot0_displayStatus (c : DigitCode) (d : DotSlot) : (s.setDigit .slot0 c d).displayStatus = s.displayStatus :=
    rfl
@[simp] theorem State.setDigit_slot0_displayNewStatus (c : DigitCode) (d : DotSlot) : (s.setDigit .slot0 c d).displayNewStatus = s.displayNewStatus :=
    rfl
@[simp] theorem State.setDigit_slot0_displaying (c : DigitCode) (d : DotSlot) : (s.setDigit .slot0 c d).displaying = s.displaying :=
    rfl
@[simp] theorem State.setDigit_slot0_displayCounter (c : DigitCode) (d : DotSlot) : (s.setDigit .slot0 c d).displayCounter = s.displayCounter :=
    rfl
@[simp] theorem State.setDigit_slot0_chargeLevel (c : DigitCode) (d : DotSlot) : (s.setDigit .slot0 c d).chargeLevel = s.chargeLevel :=
    rfl
@[simp] theorem State.setDigit_slot0_pendCode0 (c : DigitCode) (d : DotSlot) : (s.setDigit .slot0 c d).pendCode0 = c :=
    rfl
@[simp] theorem State.setDigit_slot0_pendCode1 (c : DigitCode) (d : DotSlot) : (s.setDigit .slot0 c d).pendCode1 = s.pendCode1 :=
    rfl
@[simp] theorem State.setDigit_slot0_pendDot0 (c : DigitCode) (d : DotSlot) : (s.setDigit .slot0 c d).pendDot0 = d :=
    rfl
@[simp] theorem State.setDigit_slot0_pendDot1 (c : DigitCode) (d : DotSlot) : (s.setDigit .slot0 c d).pendDot1 = s.pendDot1 :=
    rfl
@[simp] theorem State.setDigit_slot0_alt (c : DigitCode) (d : DotSlot) : (s.setDigit .slot0 c d).alt = s.alt :=
    rfl
@[simp] theorem State.setDigit_slot0_seg (c : DigitCode) (d : DotSlot) : (s.setDigit .slot0 c d).seg = s.seg :=
    rfl
@[simp] theorem State.setDigit_slot0_an (c : DigitCode) (d : DotSlot) : (s.setDigit .slot0 c d).an = s.an :=
    rfl
@[simp] theorem State.setDigit_slot0_dp (c : DigitCode) (d : DotSlot) : (s.setDigit .slot0 c d).dp = s.dp :=
    rfl
@[simp] theorem State.setDigit_slot0_busEn (c : DigitCode) (d : DotSlot) : (s.setDigit .slot0 c d).busEn = s.busEn :=
    rfl
@[simp] theorem State.setDigit_slot0_fault (c : DigitCode) (d : DotSlot) : (s.setDigit .slot0 c d).fault = s.fault :=
    rfl
@[simp] theorem State.setDigit_slot0_events (c : DigitCode) (d : DotSlot) : (s.setDigit .slot0 c d).events = s.events :=
    rfl
@[simp] theorem State.setDigit_slot0_response (c : DigitCode) (d : DotSlot) : (s.setDigit .slot0 c d).response = s.response :=
    rfl
@[simp] theorem State.setDigit_slot0_emitted (c : DigitCode) (d : DotSlot) : (s.setDigit .slot0 c d).emitted = s.emitted :=
    rfl

@[simp] theorem State.setDigit_slot1_params (c : DigitCode) (d : DotSlot) : (s.setDigit .slot1 c d).params = s.params :=
    rfl
@[simp] theorem State.setDigit_slot1_hours (c : DigitCode) (d : DotSlot) : (s.setDigit .slot1 c d).hours = s.hours :=
    rfl
@[simp] theorem State.setDigit_slot1_minutes (c : DigitCode) (d : DotSlot) : (s.setDigit .slot1 c d).minutes = s.minutes :=
    rfl
@[simp] theorem State.setDigit_slot1_seconds (c : DigitCode) (d : DotSlot) : (s.setDigit .slot1 c d).seconds = s.seconds :=
    rfl
@[simp] theorem State.setDigit_slot1_currentTick (c : DigitCode) (d : DotSlot) : (s.setDigit .slot1 c d).currentTick = s.currentTick :=
    rfl
@[simp] theorem State.setDigit_slot1_displayStatus (c : DigitCode) (d : DotSlot) : (s.setDigit .slot1 c d).displayStatus = s.displayStatus :=
    rfl
@[simp] theorem State.setDigit_slot1_displayNewStatus (c : DigitCode) (d : DotSlot) : (s.setDigit .slot1 c d).displayNewStatus = s.displayNewStatus :=
    rfl
@[simp] theorem State.setDigit_slot1_displaying (c : DigitCode) (d : DotSlot) : (s.setDigit .slot1 c d).displaying = s.displaying :=
    rfl
@[simp] theorem State.setDigit_slot1_displayCounter (c : DigitCode) (d : DotSlot) : (s.setDigit .slot1 c d).displayCounter = s.displayCounter :=
    rfl
@[simp] theorem State.setDigit_slot1_chargeLevel (c : DigitCode) (d : DotSlot) : (s.setDigit .slot1 c d).chargeLevel = s.chargeLevel :=
    rfl
@[simp] theorem State.setDigit_slot1_pendCode0 (c : DigitCode) (d : DotSlot) : (s.setDigit .slot1 c d).pendCode0 = s.pendCode0 :=
    rfl
@[simp] theorem State.setDigit_slot1_pendCode1 (c : DigitCode) (d : DotSlot) : (s.setDigit .slot1 c d).pendCode1 = c :=
    rfl
@[simp] theorem State.setDigit_slot1_pendDot0 (c : DigitCode) (d : DotSlot) : (s.setDigit .slot1 c d).pendDot0 = s.pendDot0 :=
    rfl
@[simp] theorem State.setDigit_slot1_pendDot1 (c : DigitCode) (d : DotSlot) : (s.setDigit .slot1 c d).pendDot1 = d :=
    rfl
@[simp] theorem State.setDigit_slot1_alt (c : DigitCode) (d : DotSlot) : (s.setDigit .slot1 c d).alt = s.alt :=
    rfl
@[simp] theorem State.setDigit_slot1_seg (c : DigitCode) (d : DotSlot) : (s.setDigit .slot1 c d).seg = s.seg :=
    rfl
@[simp] theorem State.setDigit_slot1_an (c : DigitCode) (d : DotSlot) : (s.setDigit .slot1 c d).an = s.an :=
    rfl
@[simp] theorem State.setDigit_slot1_dp (c : DigitCode) (d : DotSlot) : (s.setDigit .slot1 c d).dp = s.dp :=
    rfl
@[simp] theorem State.setDigit_slot1_busEn (c : DigitCode) (d : DotSlot) : (s.setDigit .slot1 c d).busEn = s.busEn :=
    rfl
@[simp] theorem State.setDigit_slot1_fault (c : DigitCode) (d : DotSlot) : (s.setDigit .slot1 c d).fault = s.fault :=
    rfl
@[simp] theorem State.setDigit_slot1_events (c : DigitCode) (d : DotSlot) : (s.setDigit .slot1 c d).events = s.events :=
    rfl
@[simp] theorem State.setDigit_slot1_response (c : DigitCode) (d : DotSlot) : (s.setDigit .slot1 c d).response = s.response :=
    rfl
@[simp] theorem State.setDigit_slot1_emitted (c : DigitCode) (d : DotSlot) : (s.setDigit .slot1 c d).emitted = s.emitted :=
    rfl

end Sys2Proof.Machine
end

