-- ==== Sys2Proof/Laws/Ops.lean ====
section
/-! SUPPORT. What each shared operation can do, said once, for later proofs to cite. -/

namespace Sys2Proof.Machine

/-- The fields of the engine and of the model that no mux operation writes. -/
abbrev State.SameEngine (s t : State) : Prop :=
  t.params = s.params ∧ t.hours = s.hours ∧ t.minutes = s.minutes ∧ t.seconds = s.seconds ∧
    t.currentTick = s.currentTick ∧ t.displayStatus = s.displayStatus ∧
    t.displayNewStatus = s.displayNewStatus ∧ t.displaying = s.displaying ∧
    t.displayCounter = s.displayCounter ∧ t.chargeLevel = s.chargeLevel ∧ t.fault = s.fault ∧
    t.events = s.events ∧ t.response = s.response

@[simp] theorem otherSlot_otherSlot (x : Slot) : otherSlot (otherSlot x) = x := by cases x <;> rfl

@[simp] theorem State.setDigit_pendCode_same (s : State) (sl : Slot) (c : DigitCode) (d : DotSlot) :
    (s.setDigit sl c d).pendCode sl = c := by cases sl <;> rfl

@[simp] theorem State.setDigit_pendCode_other (s : State) (sl : Slot) (c : DigitCode) (d : DotSlot) :
    (s.setDigit sl c d).pendCode (otherSlot sl) = s.pendCode (otherSlot sl) := by cases sl <;> rfl

@[simp] theorem State.setDigit_pendDot_same (s : State) (sl : Slot) (c : DigitCode) (d : DotSlot) :
    (s.setDigit sl c d).pendDot sl = d := by cases sl <;> rfl

@[simp] theorem State.setDigit_pendDot_other (s : State) (sl : Slot) (c : DigitCode) (d : DotSlot) :
    (s.setDigit sl c d).pendDot (otherSlot sl) = s.pendDot (otherSlot sl) := by cases sl <;> rfl

/-- UPDATE as one update of the state: everything it writes (40_mux R103). -/
theorem State.updateMux_eq (s : State) :
    s.updateMux =
      { s with
        alt := otherSlot s.alt
        seg := s.params.segTable.get (s.pendCode s.nextSlot)
        an := anodeOf s.nextSlot
        dp := s.pendDot s.nextSlot == dotOf s.nextSlot } := by
  cases h : s.nextSlot <;>
    simp [State.updateMux, State.render, State.driveSlot, State.driveSegments, State.driveLow,
      State.toggleAlt, State.segRom, State.pendCode, State.pendDot, h]

/-- No micro-operation writes a register of the engine, or an event, a fault or a response (10_state R22). -/
theorem State.applyOp_sameEngine (s : State) (u : MicroOp) : s.SameEngine (s.applyOp u) := by
  cases u with
  | setDigit sl c d => cases sl <;> simp [State.SameEngine, State.applyOp]
  | update => simp [State.SameEngine, State.applyOp, State.updateMux_eq]
  | off => simp [State.SameEngine, State.applyOp]
  | busEnable => simp [State.SameEngine, State.applyOp]

theorem State.emit_sameEngine (s : State) (u : MicroOp) : s.SameEngine (s.emit u) :=
  s.applyOp_sameEngine u

/-- The engine's micro-operations write the mux and its lines only (10_state R22, R60). -/
theorem State.emitAll_sameEngine (s : State) (us : List MicroOp) : s.SameEngine (s.emitAll us) := by
  induction us generalizing s with
  | nil => simp [State.SameEngine, State.emitAll]
  | cons u us ih =>
    have h1 := s.emit_sameEngine u
    have h2 := ih (s.emit u)
    simp only [State.emitAll, State.SameEngine] at *
    simp [h1, h2]

/-- No micro-operation looks at the trace, nor writes it. -/
theorem State.applyOp_emitted (s : State) (u : MicroOp) : (s.applyOp u).emitted = s.emitted := by
  cases u with
  | setDigit sl c d => cases sl <;> rfl
  | update => simp [State.applyOp, State.updateMux_eq]
  | off => rfl
  | busEnable => rfl

/-- The trace of an event grows by the micro-operations emitted, in order (30_encoding R88). -/
theorem State.emitAll_emitted (s : State) (us : List MicroOp) :
    (s.emitAll us).emitted = s.emitted ++ us := by
  induction us generalizing s with
  | nil => simp [State.emitAll]
  | cons u us ih => simp [State.emitAll, ih, State.emit]

theorem State.emitAll_append (s : State) (us vs : List MicroOp) :
    s.emitAll (us ++ vs) = (s.emitAll us).emitAll vs := by
  induction us generalizing s with
  | nil => rfl
  | cons u us ih => exact ih (s.emit u)

/-- What a quarter that sets both slots and renders leaves in the mux (41_tick R139 to R141). -/
theorem State.emitAll_paint (s : State) (c0 c1 : DigitCode) (d : DotSlot) :
    s.emitAll [.busEnable, .setDigit .slot0 c0 d, .setDigit .slot1 c1 d, .update] =
      { s with
        pendCode0 := c0
        pendCode1 := c1
        pendDot0 := d
        pendDot1 := d
        alt := otherSlot s.alt
        seg := s.params.segTable.get (match s.nextSlot with | .slot0 => c0 | .slot1 => c1)
        an := anodeOf s.nextSlot
        dp := d == dotOf s.nextSlot
        busEn := true
        emitted := s.emitted ++
          [.busEnable, .setDigit .slot0 c0 d, .setDigit .slot1 c1 d, .update] } := by
  cases h : s.nextSlot <;> unfold State.nextSlot at h <;>
    simp [State.emitAll, State.emit, State.applyOp, State.updateMux_eq, State.enableBus,
      State.setDigit, State.nextSlot, State.pendCode, State.pendDot, h]

/-- What a quarter that only renders leaves in the mux (41_tick R143). -/
theorem State.emitAll_rerender (s : State) :
    s.emitAll [.busEnable, .update] =
      { s with
        alt := otherSlot s.alt
        seg := s.params.segTable.get (s.pendCode s.nextSlot)
        an := anodeOf s.nextSlot
        dp := s.pendDot s.nextSlot == dotOf s.nextSlot
        busEn := true
        emitted := s.emitted ++ [.busEnable, .update] } := by
  cases h : s.nextSlot <;> unfold State.nextSlot at h <;>
    simp [State.emitAll, State.emit, State.applyOp, State.updateMux_eq, State.enableBus,
      State.nextSlot, State.pendCode, State.pendDot, h]

/-- What quarter 4 leaves in the mux (41_tick R142). -/
theorem State.emitAll_off (s : State) :
    s.emitAll [.off] =
      { s with seg := 0, an := 0, dp := false, busEn := false, emitted := s.emitted ++ [.off] } := rfl

/-- The codes of a DotSlot are read back (10_state R34). -/
@[simp] theorem dotSlotOf_dotCode (d : DotSlot) : dotSlotOf (dotCode d) = some d := by cases d <;> rfl

/-- The bits of a DigitCode are read back (10_state R35). -/
@[simp] theorem digitCodeOf_digitBits (c : DigitCode) : digitCodeOf (digitBits c) = some c := by
  revert c; decide

end Sys2Proof.Machine
end

