-- ==== Sys2Proof/Laws/PerInstr.lean ====
section
/-! SUPPORT. The family SpellsRow: the word of every instruction spells the row of the opcode map that its mnemonic
names (30_encoding R72, R77). -/

namespace Sys2Proof.Laws

/-- The encoded word matches the pattern and mask of the instruction's own row. -/
def SpellsRow.Statement (i : Instr) : Prop :=
  ∃ r ∈ opcodeRows, r.mnemonic = i.mnemonic ∧ r.spells i.port (encode i) = true

theorem SpellsRow.nop : SpellsRow.Statement .nop :=
  ⟨⟨.command, "NOP", 0x0000, 0xFFFF⟩, by decide, rfl, by decide⟩
theorem SpellsRow.tick : SpellsRow.Statement .tick :=
  ⟨⟨.command, "TICK", 0x1000, 0xFFFF⟩, by decide, rfl, by decide⟩
theorem SpellsRow.showTime : SpellsRow.Statement .showTime :=
  ⟨⟨.command, "SHOW_TIME", 0x2000, 0xFFFF⟩, by decide, rfl, by decide⟩
theorem SpellsRow.showCharge : SpellsRow.Statement .showCharge :=
  ⟨⟨.command, "SHOW_CHARGE", 0x3000, 0xFFFF⟩, by decide, rfl, by decide⟩
theorem SpellsRow.showEmpty : SpellsRow.Statement .showEmpty :=
  ⟨⟨.command, "SHOW_EMPTY", 0x4000, 0xFFFF⟩, by decide, rfl, by decide⟩
theorem SpellsRow.showTimeAndCharge : SpellsRow.Statement .showTimeAndCharge :=
  ⟨⟨.command, "SHOW_TIME_AND_CHARGE", 0x5000, 0xFFFF⟩, by decide, rfl, by decide⟩
theorem SpellsRow.setTime (hh : BitVec 5) (mm : BitVec 6) : SpellsRow.Statement (.setTime hh mm) :=
  ⟨⟨.command, "SET_TIME", 0x6000, 0xF800⟩, by decide, rfl, by revert hh mm; decide⟩
theorem SpellsRow.getTime : SpellsRow.Statement .getTime :=
  ⟨⟨.command, "GET_TIME", 0x7000, 0xFFFF⟩, by decide, rfl, by decide⟩
theorem SpellsRow.setChargeLevel (v : BitVec 8) : SpellsRow.Statement (.setChargeLevel v) :=
  ⟨⟨.command, "SET_CHARGE_LEVEL", 0x8000, 0xFF00⟩, by decide, rfl, by revert v; decide⟩
theorem SpellsRow.isDisplayOn : SpellsRow.Statement .isDisplayOn :=
  ⟨⟨.command, "IS_DISPLAY_ON", 0x9000, 0xFFFF⟩, by decide, rfl, by decide⟩
theorem SpellsRow.setDigit (slot : Slot) (code : BitVec 5) (dot : BitVec 2) :
    SpellsRow.Statement (.setDigit slot code dot) :=
  ⟨⟨.mux, "SET_DIGIT", 0x1000, 0xFE80⟩, by decide, rfl, by revert code dot; cases slot <;> decide⟩
theorem SpellsRow.update : SpellsRow.Statement .update :=
  ⟨⟨.mux, "UPDATE", 0x2000, 0xFFFF⟩, by decide, rfl, by decide⟩
theorem SpellsRow.off : SpellsRow.Statement .off :=
  ⟨⟨.mux, "OFF", 0x3000, 0xFFFF⟩, by decide, rfl, by decide⟩
theorem SpellsRow.busEnable : SpellsRow.Statement .busEnable :=
  ⟨⟨.mux, "BUS_ENABLE", 0x4000, 0xFFFF⟩, by decide, rfl, by decide⟩

end Sys2Proof.Laws
end

