-- ==== Sys2Proof/Laws/Tick.lean ====
section
/-! SUPPORT. What each step of TICK can do, said once, and TICK as a whole. -/

namespace Sys2Proof.Machine

/-- `second_passed` writes the wall time only (41_tick R132). -/
theorem State.secondPassed_eq (s : State) :
    s.secondPassed =
      { s with
        hours := s.secondPassed.hours
        minutes := s.secondPassed.minutes
        seconds := s.secondPassed.seconds } := by
  unfold State.secondPassed
  split
  · split <;> rfl
  · rfl

/-- Step 1 writes the wall time and the tick counter only (41_tick R131). -/
theorem State.countTick_eq (s : State) :
    s.countTick =
      { s with
        hours := s.countTick.hours
        minutes := s.countTick.minutes
        seconds := s.countTick.seconds
        currentTick := if s.currentTick + 1 = s.params.secPeriod then 0 else s.currentTick + 1 } := by
  unfold State.countTick
  split
  · rw [State.secondPassed_eq]
  · rfl

/-- Step 2 (41_tick R134). -/
theorem State.latchRequest_eq (s : State) :
    s.latchRequest =
      { s with
        displayStatus := s.modeToShow
        displayCounter := if s.displayNewStatus = .idle then s.displayCounter else 0
        displayNewStatus := .idle } := by
  unfold State.latchRequest State.modeToShow
  split
  · next h => rw [← h]
  · rfl

/-- Step 3 (41_tick R135). -/
theorem State.countDisplay_eq (s : State) :
    s.countDisplay =
      { s with
        displayCounter := if s.displayCounter < 4 * s.params.tps then s.displayCounter + 1 else s.displayCounter
        displaying := decide (s.displayCounter < 4 * s.params.tps) } := by
  unfold State.countDisplay
  split <;> simp_all

/-- The state TICK dispatches on: what steps 1 to 3 leave (41_tick R130). -/
def State.afterThree (s : State) : State :=
  { s with
    hours := s.countTick.hours
    minutes := s.countTick.minutes
    seconds := s.countTick.seconds
    currentTick := if s.currentTick + 1 = s.params.secPeriod then 0 else s.currentTick + 1
    displayStatus := s.modeToShow
    displayNewStatus := .idle
    displaying := decide ((if s.displayNewStatus = .idle then s.displayCounter else 0) < 4 * s.params.tps)
    displayCounter := s.counterToShow }

/-- TICK as steps 4 and 5 on the state the first three leave (41_tick R130). -/
theorem State.tick_eq (s : State) : s.tick = s.afterThree.dispatchSlice := by
  unfold State.tick
  rw [State.countDisplay_eq, State.latchRequest_eq, State.countTick_eq]
  rfl

/-- Steps 4 and 5 write the mux, its lines, the trace and the mode (41_tick R138). -/
theorem State.dispatchSlice_eq (s : State) :
    s.dispatchSlice =
      { s.emitAll (quarterOps s.quarter s.displayStatus s.hours s.minutes (gaugeOf s.chargeLevel)) with
        displayStatus := modeAfter s.quarter s.displayStatus } := rfl

/-- What TICK leaves in every register of the engine and in the model's fields (41_tick R130 to R136). -/
theorem State.tick_engine (s : State) :
    s.tick.params = s.params ∧ s.tick.hours = s.countTick.hours ∧ s.tick.minutes = s.countTick.minutes ∧
      s.tick.seconds = s.countTick.seconds ∧
      s.tick.currentTick = (if s.currentTick + 1 = s.params.secPeriod then 0 else s.currentTick + 1) ∧
      s.tick.displayStatus = modeAfter (quarterOf s.params.tps s.counterToShow) s.modeToShow ∧
      s.tick.displayNewStatus = .idle ∧
      s.tick.displaying =
        decide ((if s.displayNewStatus = .idle then s.displayCounter else 0) < 4 * s.params.tps) ∧
      s.tick.displayCounter = s.counterToShow ∧ s.tick.chargeLevel = s.chargeLevel ∧
      s.tick.fault = s.fault ∧ s.tick.events = s.events ∧ s.tick.response = s.response := by
  rw [State.tick_eq, State.dispatchSlice_eq]
  have h := s.afterThree.emitAll_sameEngine (quarterOps s.afterThree.quarter s.afterThree.displayStatus
    s.afterThree.hours s.afterThree.minutes (gaugeOf s.afterThree.chargeLevel))
  obtain ⟨h1, h2, h3, h4, h5, -, h7, h8, h9, h10, h11, h12, h13⟩ := h
  exact ⟨h1, h2, h3, h4, h5, rfl, h7, h8, h9, h10, h11, h12, h13⟩

/-- What TICK emits (41_tick R138). -/
theorem State.tick_emitted (s : State) :
    s.tick.emitted = s.emitted ++ quarterOps (quarterOf s.params.tps s.counterToShow) s.modeToShow
      s.countTick.hours s.countTick.minutes (gaugeOf s.chargeLevel) := by
  rw [State.tick_eq, State.dispatchSlice_eq]
  exact State.emitAll_emitted _ _

end Sys2Proof.Machine
end

