-- ==== Sys2Proof/Tests/Slice0.lean ====
section
/-! SUPPORT. Small tests, their expected results taken from spec/ (95_test_vectors and the examples of the rules), and
a witness for the hypotheses of every statement. -/

namespace Sys2Proof.Tests

open Sys2Proof Sys2Proof.Machine

/-- The parameters of 95_test_vectors, `TPS = 4`. The table is a placeholder of this file: entry `c` is `c`, so that
a lit mask names its code, and entry 10 is all off. -/
def params4 : Params :=
  { tps := 4, secPeriod := 3, segTable := #v[0, 1, 2, 3, 4, 5, 6, 7, 8, 9, 0, 11, 12, 13, 14, 15, 16],
    resetHours := 0, resetMinutes := 0, resetSeconds := 0, updateToggleFirst := true }

/-- The reset state under those parameters. -/
def reset4 : State := State.resetOf params4

/-- The next state, if there is one. -/
def nextOf (o : Host.Outcome State Fault Refusal) : Option State :=
  match o with
  | .next t => some t
  | .fault _ => none
  | .refused _ => none

/-- The state after one command word, taken from the command port. -/
def onCommand (s : State) (w : Word) : Option State := nextOf (step { s with events := [.command w] })

/-- The state after one word on the mux port of a standalone mux. -/
def onMux (s : State) (u : Word) : Option State := nextOf (step { s with events := [.muxWord u] })

/-- The state after one pulse on the tick input. -/
def onTick (s : State) : Option State := nextOf (step { s with events := [.tick] })

/-! ## Well-formedness (30_encoding R73, R78) -/

theorem test_wf_refuses_hour_24 : (Instr.setTime 24 0).wf = false := by decide
theorem test_wf_refuses_minute_60 : (Instr.setTime 0 60).wf = false := by decide
theorem test_wf_takes_23_59 : (Instr.setTime 23 59).wf = true := by decide
theorem test_wf_refuses_code_17 : (Instr.setDigit .slot0 17 0).wf = false := by decide
theorem test_wf_refuses_dot_3 : (Instr.setDigit .slot0 0 3).wf = false := by decide

/-! ## Decoding, each word written out from 30_encoding R72 and R77 -/

theorem test_decode_nop : decode .command 0b0000000000000000 = .ok .nop := by rfl
theorem test_decode_tick : decode .command 0b0001000000000000 = .ok .tick := by rfl
theorem test_decode_showTime : decode .command 0b0010000000000000 = .ok .showTime := by rfl
theorem test_decode_showCharge : decode .command 0b0011000000000000 = .ok .showCharge := by rfl
theorem test_decode_showEmpty : decode .command 0b0100000000000000 = .ok .showEmpty := by rfl
theorem test_decode_showTimeAndCharge :
    decode .command 0b0101000000000000 = .ok .showTimeAndCharge := by rfl
/-- The example of 30_encoding R86. -/
theorem test_decode_setTime : decode .command 0b0110001101100101 = .ok (.setTime 13 37) := by rfl
theorem test_decode_getTime : decode .command 0b0111000000000000 = .ok .getTime := by rfl
/-- The example of 42_requests R178. -/
theorem test_decode_setChargeLevel : decode .command 0b1000000010011111 = .ok (.setChargeLevel 159) := by rfl
theorem test_decode_isDisplayOn : decode .command 0b1001000000000000 = .ok .isDisplayOn := by rfl
/-- The example of 40_mux R102. -/
theorem test_decode_setDigit : decode .mux 0b0001000101000111 = .ok (.setDigit .slot1 7 2) := by rfl
theorem test_decode_update : decode .mux 0b0010000000000000 = .ok .update := by rfl
theorem test_decode_off : decode .mux 0b0011000000000000 = .ok .off := by rfl
theorem test_decode_busEnable : decode .mux 0b0100000000000000 = .ok .busEnable := by rfl

/-- V-R7, V-R15, V-M1 and V-M2. -/
theorem test_encode_operands :
    encode (.setTime 23 59) = 0x65FB ∧ encode (.setChargeLevel 255) = 0x80FF ∧
      encode (.setDigit .slot0 5 1) = 0x1025 ∧ encode (.setDigit .slot1 16 0) = 0x1110 := by decide

/-- A row's word with operands is read on the port that takes it; a word that spells a row on each port is read as a
command (notes/assumptions/2.md). -/
theorem test_table_words :
    decodeTableWord 16 0x1147 = some (.setDigit .slot1 7 2) ∧ decodeTableWord 16 0x67FF = some (.setTime 31 63) ∧
      decodeTableWord 16 0x2000 = some .showTime ∧ decodeTableWord 16 0xA000 = none := by decide

theorem test_fetch_word_runs_next :
    step (State.reset.withFetchWord 16 0x1147) = exec (.setDigit .slot1 7 2) State.reset := by rfl

/-! ## Faults: V-M3 to V-M6, V-M14, V-M15, V-T12, V-R8, V-R11, V-R16, V-R20, P5 -/

/-- The fault recorded after an outcome, if it is a next state. -/
def faultAfter (o : Option State) : Option FaultRecord := o.bind State.fault

theorem test_mux_operand_faults :
    faultAfter (onMux reset4 0x1011) = some ⟨.operandRange, 0x1011⟩ ∧
      faultAfter (onMux reset4 0x1060) = some ⟨.operandRange, 0x1060⟩ := by decide

theorem test_mux_reserved_bits_before_range :
    faultAfter (onMux reset4 0x1080) = some ⟨.reservedBits, 0x1080⟩ ∧
      faultAfter (onMux reset4 0x1211) = some ⟨.reservedBits, 0x1211⟩ ∧
      faultAfter (onMux reset4 0x2001) = some ⟨.reservedBits, 0x2001⟩ := by decide

theorem test_mux_illegal_opcodes :
    faultAfter (onMux reset4 0x0000) = some ⟨.illegalOpcode, 0x0000⟩ ∧
      faultAfter (onMux reset4 0x5000) = some ⟨.illegalOpcode, 0x5000⟩ ∧
      faultAfter (onMux reset4 0xF000) = some ⟨.illegalOpcode, 0xF000⟩ := by decide

theorem test_command_faults :
    faultAfter (onCommand reset4 0x1001) = some ⟨.reservedBits, 0x1001⟩ ∧
      faultAfter (onCommand reset4 0x603C) = some ⟨.operandRange, 0x603C⟩ ∧
      faultAfter (onCommand reset4 0x6E00) = some ⟨.reservedBits, 0x6E00⟩ ∧
      faultAfter (onCommand reset4 0x8100) = some ⟨.reservedBits, 0x8100⟩ ∧
      faultAfter (onCommand reset4 0xC123) = some ⟨.illegalOpcode, 0xC123⟩ := by decide

/-- P5: the refused command leaves every other element, and the TICK after it has no step. -/
theorem test_refused_command_stops_the_block :
    step { reset4 with events := [.command 0x6600, .tick] } =
        .next { reset4 with events := [.tick], fault := some ⟨.operandRange, 0x6600⟩ } ∧
      step { reset4 with events := [.tick], fault := some ⟨.operandRange, 0x6600⟩ } =
        .fault (.halted ⟨.operandRange, 0x6600⟩) := ⟨rfl, rfl⟩

/-! ## Requests and accessors (95_test_vectors 2.3) -/

/-- V-R1. -/
theorem test_nop : onCommand reset4 0x0000 = some reset4 := by rfl

/-- V-R3. -/
theorem test_showTime :
    (onCommand reset4 0x2000).map (fun t => (t.displayNewStatus, t.displayStatus, t.displayCounter)) =
      some (.time, .idle, 16) := by decide

/-- V-R5. -/
theorem test_last_request_wins :
    (((onCommand reset4 0x3000).bind fun t => onCommand t 0x4000).bind onTick).map State.displayStatus =
      some .emptyBattery := by decide

/-- V-R6. -/
theorem test_showTimeAndCharge :
    (onCommand reset4 0x5000).map State.displayNewStatus = some .both := by decide

/-- V-R12: seconds and the tick phase stay. -/
theorem test_setTime_keeps_seconds :
    (onCommand { reset4 with seconds := 42, currentTick := 1, hours := 9 } 0x6000).map
      (fun t => (t.hours, t.minutes, t.seconds, t.currentTick)) = some (0, 0, 42, 1) := by decide

/-- V-R7. -/
theorem test_setTime_23_59 :
    (onCommand reset4 0x65FB).map (fun t => (t.hours, t.minutes)) = some (23, 59) := by decide

/-- W8, V-R13. -/
theorem test_getTime :
    (onCommand { reset4 with hours := 7, minutes := 5 } 0x7000).bind State.response = some 0x01C5 ∧
      (onCommand { reset4 with hours := 23, minutes := 59 } 0x7000).bind State.response = some 0x05FB := by
  decide

/-- V-R15. -/
theorem test_setChargeLevel : (onCommand reset4 0x80FF).map State.chargeLevel = some 255 := by decide

/-- V-R17 to V-R19. -/
theorem test_isDisplayOn :
    (onCommand reset4 0x9000).bind State.response = some 0x0000 ∧
      ((onCommand reset4 0x2000).bind fun t => onCommand t 0x9000).bind State.response = some 0x0000 ∧
      (((onCommand reset4 0x2000).bind onTick).bind fun t => onCommand t 0x9000).bind State.response =
        some 0x0001 := by decide

/-! ## The mux (95_test_vectors 2.1, 40_mux) -/

/-- V-M1: the pending slot, and no output line. -/
theorem test_setDigit :
    (onMux reset4 0x1025).map (fun t => (t.pendCode0, t.pendDot0, t.pendCode1, t.seg, t.an)) =
      some (5, .digit1, 10, 0, 0) := by decide

/-- V-M8: slot 1 is rendered, and its dot is lit. -/
theorem test_update_slot1 :
    (onMux { reset4 with pendCode0 := 4, pendCode1 := 2, pendDot0 := .digit2, pendDot1 := .digit2 } 0x2000).map
      (fun t => (t.alt, t.seg, t.an, t.dp)) = some (.slot1, 2, 0b10, true) := by decide

/-- V-M10: the other value of the parameter renders before it toggles. -/
theorem test_update_toggle_last :
    (onMux { reset4 with
      params := { params4 with updateToggleFirst := false },
      pendCode0 := 1, pendCode1 := 3, pendDot0 := .digit1, pendDot1 := .digit1 } 0x2000).map
      (fun t => (t.alt, t.seg, t.an, t.dp)) = some (.slot1, 1, 0b01, true) := by decide

/-- V-M11. -/
theorem test_off :
    (onMux { reset4 with seg := 3, an := 0b01, dp := true, busEn := true, alt := .slot1 } 0x3000).map
      (fun t => (t.seg, t.an, t.dp, t.busEn, t.alt)) = some (0, 0, false, false, .slot1) := by decide

/-- V-M12. -/
theorem test_busEnable :
    (onMux reset4 0x4000).map (fun t => (t.busEn, t.seg, t.an, t.dp)) = some (true, 0, 0, false) := by decide

/-! ## TICK (95_test_vectors 2.2, 41_tick) -/

/-- V-T6 and V-T6b. -/
theorem test_tick_rolls_over :
    (onTick { reset4 with hours := 9, minutes := 59, seconds := 59, currentTick := 2 }).map
        (fun t => (t.hours, t.minutes, t.seconds, t.currentTick)) = some (10, 0, 0, 0) ∧
      (onTick { reset4 with hours := 23, minutes := 59, seconds := 59, currentTick := 2 }).map
        (fun t => (t.hours, t.minutes, t.seconds, t.currentTick)) = some (0, 0, 0, 0) := by decide

/-- V-T7c and V-T7d. -/
theorem test_tick_displaying_falls_late :
    (onTick { reset4 with displayCounter := 15 }).map (fun t => (t.displayCounter, t.displaying)) =
        some (16, true) ∧
      (onTick { reset4 with displayCounter := 16 }).map (fun t => (t.displayCounter, t.displaying)) =
        some (16, false) := by decide

/-- V-T8, at both ends of each step of the gauge that GaugeValueIsClamped names. -/
theorem test_gauge_steps :
    gaugeOf 0 = 10 ∧ gaugeOf 15 = 10 ∧ gaugeOf 16 = 11 ∧ gaugeOf 79 = 14 ∧ gaugeOf 80 = 15 ∧ gaugeOf 95 = 15 ∧
      gaugeOf 96 = 16 ∧ gaugeOf 159 = 16 ∧ gaugeOf 255 = 16 := by decide

/-- The micro-operations of V-T9 at counter `c`, the time 13:37, in mode `m`. -/
def emittedAt (c : Nat) (m : DisplayMode) : Option (List MicroOp) :=
  (onTick { reset4 with
    hours := 13, minutes := 37, chargeLevel := 100, displayStatus := m, displayCounter := c - 1 }).map State.emitted

/-- V-T9, modes Time and Both. -/
theorem test_tick_emits_time_and_gauge :
    emittedAt 4 .time = some [.busEnable, .setDigit .slot0 1 .digit1, .setDigit .slot1 3 .digit1, .update] ∧
      emittedAt 5 .time = some [.busEnable, .setDigit .slot0 3 .digit2, .setDigit .slot1 7 .digit2, .update] ∧
      emittedAt 9 .time = some [] ∧
      emittedAt 12 .both = some [.busEnable, .setDigit .slot0 16 .off, .setDigit .slot1 16 .off, .update] ∧
      emittedAt 13 .both = some [.off] := by decide

/-- V-T9, modes EmptyBattery and Charge. -/
theorem test_tick_emits_blanks_or_stale :
    emittedAt 8 .emptyBattery =
        some [.busEnable, .setDigit .slot0 10 .digit2, .setDigit .slot1 10 .digit2, .update] ∧
      emittedAt 1 .charge = some [.busEnable, .update] ∧ emittedAt 9 .charge = some [] := by decide

/-! ## Assembly (30_encoding R86) -/

theorem test_assembles_set_time :
    (assembleLine params4 "SET_TIME 13, 37 ; comment".toList).map assembledWords = some [0x6365] := by decide
theorem test_assembles_set_digit :
    (assembleLine params4 "SET_DIGIT 1, 7, DIGIT2".toList).map assembledWords = some [0x1147] := by decide

/-! ## Parameters -/

/-- 00_scope R11: "For the reference `TPS = 200`, `CT_W = 8` and `DC_W = 10`." -/
theorem test_widths_of_reference_build :
    Config.params.tickWidth = 8 ∧ Config.params.counterWidth = 10 := by decide

/-! ## Witnesses: the hypotheses of each statement hold together, each clause at its boundaries -/

theorem test_witness_params4_legal : params4.Wf := by decide

theorem test_witness_EncodeOfDecodeIsTheWord :
    decode .mux 0x117F = .ok (.setDigit .slot1 31 3) ∧ decode .command 0x67FF = .ok (.setTime 31 63) := by decide

theorem test_witness_DecodedWordSpellsExactlyOneRow :
    decode .command 0x9000 = .ok .isDisplayOn ∧ decode .command 0xA000 = .error .illegalOpcode ∧
      decode .command 0x6800 = .error .reservedBits := by decide

/-- An unfaulted state with a word as its oldest event, as FirstFailedCheckDecidesTheFault,
StepRunsTheDecodedInstruction and OnlyAccessorsRespond ask, for each outcome of the checks. -/
theorem test_witness_FirstFailedCheckDecidesTheFault :
    ({ reset4 with events := [eventOn .command 0xA000] } : State).fault = none ∧
      faultOfWord .command 0xA000 = some .illegalOpcode ∧ faultOfWord .mux 0x5000 = some .illegalOpcode ∧
      faultOfWord .command 0x9001 = some .reservedBits ∧ faultOfWord .mux 0x1080 = some .reservedBits ∧
      faultOfWord .command 0x6600 = some .operandRange ∧ faultOfWord .command 0x603C = some .operandRange ∧
      faultOfWord .mux 0x1011 = some .operandRange ∧ faultOfWord .mux 0x1060 = some .operandRange ∧
      faultOfWord .command 0x65FB = none ∧ faultOfWord .mux 0x1050 = none := by decide

theorem test_witness_StepRunsTheDecodedInstruction :
    ({ reset4 with events := [eventOn .mux 0x4000, .tick] } : State).fault = none ∧
      decode .mux 0x4000 = .ok .busEnable := by decide

theorem test_witness_FaultedBlockTakesNoEvent :
    ({ reset4 with fault := some ⟨.illegalOpcode, 0xA000⟩, events := [.reset] } : State).fault =
      some ⟨.illegalOpcode, 0xA000⟩ := rfl

/-- As UnfaultedBlockAlwaysSteps, TickPulseEqualsTickCommand, TickIsTakenBeforeSimultaneousCommand and
WaitingBlockIsUnchanged ask. -/
theorem test_witness_WaitingBlockIsUnchanged : reset4.fault = none ∧ reset4.events = [] := ⟨rfl, rfl⟩

theorem test_witness_OnlyAccessorsRespond :
    (onCommand reset4 0x7000).isSome = true ∧ (onCommand { reset4 with displaying := true } 0x9000).isSome = true ∧
      (onCommand reset4 0x8042).isSome = true ∧ reset4.fault = none := by decide

theorem test_witness_ResetEventLoadsResetState :
    ({ reset4 with hours := 3, events := [.reset, .tick] } : State).fault = none ∧
      step { reset4 with hours := 3, events := [.reset, .tick] } = .next { reset4 with events := [.tick] } :=
  ⟨rfl, rfl⟩

theorem test_witness_QuiescentTickOnlyAdvancesTheClock :
    2 ≤ reset4.params.tps ∧ reset4.displayStatus = .idle ∧ reset4.displayNewStatus = .idle ∧
      reset4.displayCounter = 4 * reset4.params.tps ∧ reset4.displaying = false ∧ reset4.Dark := by decide

/-- The invariant's hypothesis, met by a state with an event to take (EveryStepKeepsInvariant,
CountersFitTheirWidths). -/
theorem test_witness_EveryStepKeepsInvariant :
    ({ reset4 with events := [.tick], displayNewStatus := .both } : State).Inv ∧
      (onTick { reset4 with displayNewStatus := .both }).isSome = true := by
  refine ⟨⟨by decide, by decide, by decide, by decide, by decide, by decide, by decide, by decide, ?_, by decide⟩,
    by decide⟩
  intro h
  exact absurd h (by decide)

theorem test_witness_WallTimeStaysLegal :
    reset4.params.Wf ∧ ({ reset4 with hours := 23, minutes := 59, seconds := 59 } : State).WallLegal ∧
      (onTick { reset4 with hours := 23, minutes := 59, seconds := 59 }).isSome = true := by decide

theorem test_witness_NoStepWritesParametersOrRom : (onTick reset4).isSome = true := by decide

theorem test_witness_OnlyTickAndResetReachTheDisplay :
    reset4.fault = none ∧ (Event.command 0x3000).hosted = true ∧ Event.command 0x3000 ≠ .tick ∧
      Event.command 0x3000 ≠ .command 0x1000 ∧ Event.command 0x3000 ≠ .reset ∧
      (onCommand reset4 0x3000).isSome = true := by decide

theorem test_witness_LastRequestWins :
    Instr.showCharge ∈ [Instr.showTime, .showCharge, .showEmpty, .showTimeAndCharge] ∧
      Instr.showEmpty ∈ [Instr.showTime, .showCharge, .showEmpty, .showTimeAndCharge] ∧
      0 < reset4.params.tps := by decide

/-- The clauses on the words (RefusesLowBits and the reserved bits of SET_TIME, SET_CHARGE_LEVEL, SET_DIGIT) at both
ends of the reserved fields. -/
theorem test_witness_reserved_bits :
    decode .command 0x0001 = .error .reservedBits ∧ decode .command 0x2800 = .error .reservedBits ∧
      decode .command 0x3001 = .error .reservedBits ∧ decode .command 0x4800 = .error .reservedBits ∧
      decode .command 0x5001 = .error .reservedBits ∧ decode .command 0x6800 = .error .reservedBits ∧
      decode .command 0x7FFF = .error .reservedBits ∧ decode .command 0x8100 = .error .reservedBits ∧
      decode .command 0x8800 = .error .reservedBits ∧ decode .command 0x9800 = .error .reservedBits ∧
      decode .mux 0x1200 = .error .reservedBits ∧ decode .mux 0x1800 = .error .reservedBits ∧
      decode .mux 0x1080 = .error .reservedBits := by decide

/-- The clauses of SetTimeWritesHoursAndMinutes and SetDigitStoresOnePendingSlot where they meet. -/
theorem test_witness_operand_boundaries :
    ((23 : BitVec 5).toNat ≤ 23 ∧ (59 : BitVec 6).toNat ≤ 59) ∧
      (23 < (24 : BitVec 5).toNat ∨ 59 < (0 : BitVec 6).toNat) ∧
      (23 < (0 : BitVec 5).toNat ∨ 59 < (60 : BitVec 6).toNat) ∧
      ((16 : BitVec 5).toNat ≤ 16 ∧ (2 : BitVec 2).toNat ≤ 2) ∧
      (16 < (17 : BitVec 5).toNat ∨ (0 : BitVec 2).toNat = 3) ∧
      (16 < (0 : BitVec 5).toNat ∨ (3 : BitVec 2).toNat = 3) := by decide

theorem test_witness_SetTimeOfResponseRestoresTheTime : reset4.WallLegal := by decide

theorem test_witness_CommandsButTickAreIdempotent :
    (Instr.setTime 24 0).port = .command ∧ Instr.setTime 24 0 ≠ .tick ∧
      (nextOf (exec (.setTime 24 0) reset4)).isSome = true := by decide

theorem test_witness_UpdateRendersOneSlot :
    (Slot.slot1 = match reset4.params.updateToggleFirst, reset4.alt with
      | true, .slot0 => .slot1
      | true, .slot1 => .slot0
      | false, a => a) := by decide

theorem test_witness_SecondPassedIsTheNextSecond :
    ({ reset4 with hours := 23, minutes := 59, seconds := 59 } : State).WallLegal := by decide

/-- Both clauses on one TICK, and the hypotheses on `n` TICKs at both ends of the tick phase. -/
theorem test_witness_SecondBoundaryEverySecPeriodTicks :
    ({ reset4 with currentTick := 2 } : State).currentTick + 1 = reset4.params.secPeriod ∧
      reset4.currentTick + 1 ≠ reset4.params.secPeriod ∧ reset4.WallLegal ∧
      reset4.currentTick < reset4.params.secPeriod ∧
      ({ reset4 with currentTick := 2 } : State).currentTick < reset4.params.secPeriod := by decide

/-- The counter after a TICK from counter `c` in mode `m`, and the mode shown. -/
def shownAt (c : Nat) (m : DisplayMode) : Nat × DisplayMode :=
  let s := { reset4 with displayStatus := m, displayCounter := c }
  (s.tick.displayCounter, s.modeToShow)

/-- The clauses of TickLatchesAndCounts at 0, just below and at the bound. -/
theorem test_witness_TickLatchesAndCounts :
    (0 : Nat) = (if ({ reset4 with displayNewStatus := .time } : State).displayNewStatus = .idle
      then reset4.displayCounter else 0) ∧ shownAt 15 .idle = (16, .idle) ∧ shownAt 16 .idle = (16, .idle) := by
  decide

/-- Quarters 1 to 4 at their first and last counters, in every mode of their clauses. -/
theorem test_witness_quarters :
    (∀ m ∈ [DisplayMode.time, .both, .emptyBattery, .charge, .idle],
      shownAt 0 m = (1, m) ∧ shownAt 3 m = (4, m) ∧ shownAt 4 m = (5, m) ∧ shownAt 7 m = (8, m) ∧
        shownAt 8 m = (9, m) ∧ shownAt 11 m = (12, m) ∧ shownAt 12 m = (13, m) ∧ shownAt 16 m = (16, m)) := by
  decide

theorem test_witness_SliceSelectionIsPure :
    reset4.tick.displayCounter = ({ reset4 with currentTick := 1 } : State).tick.displayCounter ∧
      reset4.modeToShow = ({ reset4 with currentTick := 1 } : State).modeToShow ∧
      reset4.tick.hours = ({ reset4 with currentTick := 1 } : State).tick.hours ∧
      reset4.tick.minutes = ({ reset4 with currentTick := 1 } : State).tick.minutes ∧
      reset4.emitted = [] := by decide

theorem test_witness_ChargeModeShowsStaleContent :
    ({ reset4 with displayNewStatus := .charge } : State).modeToShow = .charge ∧ shownAt 0 .charge = (1, .charge) ∧
      shownAt 7 .charge = (8, .charge) := by decide

theorem test_witness_ResetValueOfEveryElement : reset4 = State.resetOf params4 := rfl

theorem test_witness_ShownDigitsAreInRange :
    ({ reset4 with displayNewStatus := .both } : State).modeToShow = .both ∧ reset4.WallLegal := by decide

/-- The ranges of DisplayCycleRunsItsFourQuarters where they meet: 12 and 13, 16 and 17 TICKs of `TPS = 4`. -/
theorem test_witness_DisplayCycleRunsItsFourQuarters :
    ({ reset4 with displayNewStatus := .time } : State).displayNewStatus ≠ .idle ∧ 1 ≤ 12 ∧
      12 ≤ 3 * reset4.params.tps ∧ 3 * reset4.params.tps < 13 ∧ 16 ≤ 4 * reset4.params.tps ∧
      4 * reset4.params.tps < 17 ∧
      (nextOf (execTimes .tick 1 { reset4 with displayNewStatus := .time })).map
        (fun t => (t.displayCounter, t.displayStatus, t.displaying, t.busEn)) = some (1, .time, true, true) := by
  decide

/-- A line for legal operands, one for vector P5's hour 24, and none for a dot of 3. -/
theorem test_witness_AssembledLineIsTheInstruction :
    lineOf (.setDigit .slot1 7 2) = some "SET_DIGIT 1, 7, DIGIT2".toList ∧
      lineOf (.setTime 24 0) = some "SET_TIME 24, 0".toList ∧ lineOf (.setDigit .slot0 0 3) = none := by decide

/-- The first `n` of PseudoInstructionsExpandToTicks, and the program P1's `TICKS 17`. -/
theorem test_witness_PseudoInstructionsExpandToTicks :
    1 ≤ 1 ∧ assembleLine params4 ("TICKS ".toList ++ decimalText 1) = some [.tick] ∧
      assembleLine params4 "TICKS 17".toList = some (ticksPseudo 17) := ⟨by decide, rfl, rfl⟩

end Sys2Proof.Tests
end

section
/-! PROOFS. The scope of the block (00_scope): its parameters and the widths derived from them, one event taken, and
emitting. The lemmas of each part stand before the statements they settle. -/

namespace Sys2Proof

/-! ## Parameters and derived widths (00_scope section 3) -/

/-- The one entry of the segment ROM that the spec fixes (00_scope R8). -/
@[simp] theorem Config.segTable_blank : Config.segTable.get blankCode = 0 := rfl

/-- The blank ROM entry is written as a literal, so no free entry is looked at. -/
theorem Config.params_wf : Config.params.Wf :=
  ⟨by decide, .inl rfl, Config.segTable_blank, by decide, by decide, by decide⟩

/-- `CT_W` bits hold every count up to `TPS` (00_scope R11). -/
theorem Params.lt_two_pow_tickWidth (p : Params) {n : Nat} (h : n ≤ p.tps) : n < 2 ^ p.tickWidth :=
  Nat.lt_of_succ_le ((Nat.succ_le_succ h).trans (Nat.le_pow_clog one_lt_two _))

/-- `DC_W` bits hold every count up to a full display cycle (00_scope R11). -/
theorem Params.lt_two_pow_counterWidth (p : Params) {n : Nat} (h : n ≤ p.cycle) : n < 2 ^ p.counterWidth :=
  Nat.lt_of_succ_le ((Nat.succ_le_succ h).trans (Nat.le_pow_clog one_lt_two _))

/-- Both legal values of `SEC_PERIOD` are at most `TPS` (00_scope R7). -/
theorem Params.Wf.secPeriod_le_tps {p : Params} (h : p.Wf) : p.secPeriod ≤ p.tps := by
  obtain ⟨-, hless | hequal, -⟩ := h
  · exact hless.trans_le (Nat.sub_le _ _)
  · exact hequal.le

namespace Machine

/-- Settles O15. -/
theorem resetParametersAreLegal : Obligations.ResetParametersAreLegal :=
  ⟨Config.params_wf, Config.segTable_blank⟩

/-- Settles O20: the invariant bounds each counter by the count its width was derived from. -/
theorem countersFitTheirWidths : Obligations.CountersFitTheirWidths := by
  intro s hinv
  have hphase : s.currentTick ≤ s.params.tps := hinv.phase.le.trans hinv.params.secPeriod_le_tps
  exact ⟨s.params.lt_two_pow_tickWidth hphase, s.params.lt_two_pow_counterWidth hinv.counterBound⟩

/-! ## One event taken (00_scope R15, 30_encoding R70) -/

/-- An unfaulted block takes its oldest event (00_scope R5, R15). -/
theorem step_of_event {s : State} {e : Event} {rest : List Event} (hfault : s.fault = none)
    (hevents : s.events = e :: rest) : step s = (s.begin rest).takeEvent e := by
  simp [step, nextEvent, hfault, hevents]

/-- The event that carries a word gives it to the word's own port. -/
@[simp] theorem State.takeEvent_eventOn (s : State) (p : Port) (w : Word) :
    s.takeEvent (eventOn p w) = s.takeWord p w := by
  cases p <;> rfl

/-- A word that decodes is executed (30_encoding R85). -/
theorem State.takeWord_of_decode_ok {p : Port} {w : Word} {i : Instr} (s : State) (h : decode p w = .ok i) :
    s.takeWord p w = exec i s := by
  simp [State.takeWord, h]

/-- Settles O8. -/
theorem stepRunsTheDecodedInstruction : Obligations.StepRunsTheDecodedInstruction := by
  intro p w i s rest hfault hevents hdecode
  calc step s = (s.begin rest).takeEvent (eventOn p w) := step_of_event hfault hevents
    _ = (s.begin rest).takeWord p w := State.takeEvent_eventOn _ p w
    _ = exec i (s.begin rest) := State.takeWord_of_decode_ok _ hdecode

/-! ## Emitting (00_scope R14, 20_memory R60) -/

/-- The fields that a micro-operation's instruction holds are read back as the micro-operation's own operands, so it
runs the same mux rule and raises no fault (40_mux R102 to R106). -/
theorem exec_instrOf (s : State) (u : MicroOp) : exec (instrOf u) s = .next (s.applyOp u) := by
  cases u with
  | setDigit slot code dot => simp [instrOf, exec, execSetDigit, State.applyOp]
  | update => rfl
  | off => rfl
  | busEnable => rfl

/-- But for the trace, emitting a micro-operation is its mux rule. -/
theorem State.emit_restore_emitted (s : State) (u : MicroOp) :
    { s.emit u with emitted := s.emitted } = s.applyOp u := by
  rw [← s.applyOp_emitted u]
  rfl

/-- Settles O50. -/
theorem emitHasTheEffectOfTheInstruction : Obligations.EmitHasTheEffectOfTheInstruction := by
  intro s u
  rw [State.emit_restore_emitted]
  exact ⟨exec_instrOf s u, rfl⟩

end Machine
end Sys2Proof
end

section
/-! PROOFS. The state of the block (10_state): which word an instruction is decoded from, what one event can do to the
state, and the invariant. The lemmas of each part stand before the statements they settle. -/

namespace Sys2Proof

/-! ## The word an instruction is decoded from (30_encoding R70 to R78, R83) -/

/-- A word passes the second check of 30_encoding R85 exactly when its reserved bits are 0. -/
theorem checkReserved_eq_ok_iff {reserved w : Word} {i j : Instr} :
    checkReserved reserved w i = .ok j ↔ w &&& reserved = 0 ∧ i = j := by
  unfold checkReserved
  split <;> simp_all

/-- A field whose bits are all reserved is 0 in a word that passes the check (30_encoding R75, R76). -/
theorem extractLsb'_eq_zero_of_reserved {w reserved : Word} {start len : Nat} (h : w &&& reserved = 0)
    (hones : reserved.extractLsb' start len = BitVec.allOnes len) : w.extractLsb' start len = 0 := by
  have hand : (w &&& reserved).extractLsb' start len = 0 := by rw [h]; exact BitVec.extractLsb'_zero
  rwa [BitVec.extractLsb'_and, hones, BitVec.and_allOnes] at hand

/-- Neighbouring fields join: the upper one starts where the lower one ends. -/
theorem extractLsb'_append_below (w : Word) (start upper lower : Nat) :
    w.extractLsb' (start + lower) upper ++ w.extractLsb' start lower = w.extractLsb' start (upper + lower) :=
  BitVec.extractLsb'_append_extractLsb'_eq_extractLsb' rfl

/-- The opcode map's number as the four bits of the field. -/
theorem opcodeField_eq_ofNat {w : Word} {n : Nat} (hop : (opcodeField w).toNat = n) :
    opcodeField w = BitVec.ofNat 4 n := by
  rw [← hop, BitVec.ofNat_toNat, BitVec.setWidth_eq]

/-- The opcode and the twelve bits below it are the whole word (30_encoding R70). -/
theorem opcodeField_append (w : Word) : opcodeField w ++ w.extractLsb' 0 12 = w :=
  (extractLsb'_append_below w 0 4 12).trans BitVec.extractLsb'_eq_self

/-- `u[8]` as the slot it numbers and back (30_encoding R78). -/
theorem bitOfSlot_slotOfBit (u : Word) : bitOfSlot (slotOfBit (u.getLsbD 8)) = u.extractLsb' 8 1 := by
  ext k hk
  obtain rfl : k = 0 := by omega
  cases h : u.getLsbD 8 <;> simp_all [slotOfBit, bitOfSlot]

/-- A row without operands is spelled by the one word that passes its check (30_encoding R72, R77). -/
theorem encode_eq_of_bare {w : Word} {i : Instr} {n : Nat} (hop : (opcodeField w).toNat = n)
    (hres : w &&& 0x0FFF = 0) (henc : encode i = BitVec.ofNat 4 n ++ 0#12) : encode i = w := by
  have hlow : w.extractLsb' 0 12 = 0#12 := extractLsb'_eq_zero_of_reserved hres rfl
  rw [henc, ← opcodeField_eq_ofNat hop, ← hlow, opcodeField_append]

/-- SET_TIME's fields and its reserved bit 11 make up the word (30_encoding R71). -/
theorem encode_setTime_fields {w : Word} (hop : (opcodeField w).toNat = 6) (hres : w &&& 0x0800 = 0) :
    encode (.setTime (w.extractLsb' 6 5) (w.extractLsb' 0 6)) = w := by
  have hzero : w.extractLsb' 11 1 = 0#1 := extractLsb'_eq_zero_of_reserved hres rfl
  calc encode (.setTime (w.extractLsb' 6 5) (w.extractLsb' 0 6))
      = opcodeField w ++ w.extractLsb' 11 1 ++ w.extractLsb' 6 5 ++ w.extractLsb' 0 6 := by
        rw [opcodeField_eq_ofNat hop, hzero]; rfl
    _ = w.extractLsb' 0 16 := by
        rw [opcodeField, extractLsb'_append_below w 11 4 1, extractLsb'_append_below w 6 5 5,
          extractLsb'_append_below w 0 10 6]
    _ = w := BitVec.extractLsb'_eq_self

/-- SET_CHARGE_LEVEL's byte and its reserved bits 11:8 make up the word (30_encoding R71). -/
theorem encode_setChargeLevel_fields {w : Word} (hop : (opcodeField w).toNat = 8) (hres : w &&& 0x0F00 = 0) :
    encode (.setChargeLevel (w.extractLsb' 0 8)) = w := by
  have hzero : w.extractLsb' 8 4 = 0#4 := extractLsb'_eq_zero_of_reserved hres rfl
  calc encode (.setChargeLevel (w.extractLsb' 0 8))
      = opcodeField w ++ w.extractLsb' 8 4 ++ w.extractLsb' 0 8 := by
        rw [opcodeField_eq_ofNat hop, hzero]; rfl
    _ = w.extractLsb' 0 16 := by
        rw [opcodeField, extractLsb'_append_below w 8 4 4, extractLsb'_append_below w 0 8 8]
    _ = w := BitVec.extractLsb'_eq_self

/-- SET_DIGIT's fields and its reserved bits 11:9 and 7 make up the word (30_encoding R76). -/
theorem encode_setDigit_fields {u : Word} (hop : (opcodeField u).toNat = 1) (hres : u &&& 0x0E80 = 0) :
    encode (.setDigit (slotOfBit (u.getLsbD 8)) (u.extractLsb' 0 5) (u.extractLsb' 5 2)) = u := by
  have hhigh : u.extractLsb' 9 3 = 0#3 := extractLsb'_eq_zero_of_reserved hres rfl
  have hlow : u.extractLsb' 7 1 = 0#1 := extractLsb'_eq_zero_of_reserved hres rfl
  calc encode (.setDigit (slotOfBit (u.getLsbD 8)) (u.extractLsb' 0 5) (u.extractLsb' 5 2))
      = opcodeField u ++ u.extractLsb' 9 3 ++ u.extractLsb' 8 1 ++ u.extractLsb' 7 1 ++ u.extractLsb' 5 2 ++
          u.extractLsb' 0 5 := by
        rw [opcodeField_eq_ofNat hop, hhigh, hlow, ← bitOfSlot_slotOfBit]; rfl
    _ = u.extractLsb' 0 16 := by
        rw [opcodeField, extractLsb'_append_below u 9 4 3, extractLsb'_append_below u 8 7 1,
          extractLsb'_append_below u 7 8 1, extractLsb'_append_below u 5 9 2, extractLsb'_append_below u 0 11 5]
    _ = u := BitVec.extractLsb'_eq_self

/-- A command's word is the encoding of its instruction: only the fields of R71 are free once the check is passed. -/
theorem encode_of_decodeCommand {w : Word} {i : Instr} (h : decodeCommand w = .ok i) :
    i.port = .command ∧ encode i = w := by
  unfold decodeCommand at h
  split at h
  case h_7 hop =>
    obtain ⟨hres, rfl⟩ := checkReserved_eq_ok_iff.mp h
    exact ⟨rfl, encode_setTime_fields hop hres⟩
  case h_9 hop =>
    obtain ⟨hres, rfl⟩ := checkReserved_eq_ok_iff.mp h
    exact ⟨rfl, encode_setChargeLevel_fields hop hres⟩
  case h_11 => nomatch h
  case h_1 hop | h_2 hop | h_3 hop | h_4 hop | h_5 hop | h_6 hop | h_8 hop | h_10 hop =>
    obtain ⟨hres, rfl⟩ := checkReserved_eq_ok_iff.mp h
    exact ⟨rfl, encode_eq_of_bare hop hres rfl⟩

/-- A mux word is the encoding of its instruction: only the fields of R76 are free once the check is passed. -/
theorem encode_of_decodeMux {u : Word} {i : Instr} (h : decodeMux u = .ok i) :
    i.port = .mux ∧ encode i = u := by
  unfold decodeMux at h
  split at h
  case h_1 hop =>
    obtain ⟨hres, rfl⟩ := checkReserved_eq_ok_iff.mp h
    exact ⟨rfl, encode_setDigit_fields hop hres⟩
  case h_5 => nomatch h
  case h_2 hop | h_3 hop | h_4 hop =>
    obtain ⟨hres, rfl⟩ := checkReserved_eq_ok_iff.mp h
    exact ⟨rfl, encode_eq_of_bare hop hres rfl⟩

/-- No word is read as a neighbour's (30_encoding R83). -/
theorem encode_of_decode {p : Port} {w : Word} {i : Instr} (h : decode p w = .ok i) :
    i.port = p ∧ encode i = w := by
  cases p with
  | command => exact encode_of_decodeCommand h
  | mux => exact encode_of_decodeMux h

namespace Machine

/-! ## What one instruction, one event and one step can do (00_scope R15) -/

/-- Everything an instruction can do. The last case is NOP, the display requests, SET_TIME with legal operands and
SET_CHARGE_LEVEL: they write engine registers that no output line follows before the next TICK (10_state R22, R48). -/
theorem exec_cases {i : Instr} {s t : State} (h : exec i s = .next t) :
    (i = .tick ∧ t = s.tick) ∨
    (i.port = .mux ∧ ∃ u, t = s.applyOp u) ∨
    (∃ c w, t = s.raise c w) ∨
    (i = .getTime ∧ t = s.respond (timeWord s.hours s.minutes)) ∨
    (i = .isDisplayOn ∧ t = s.respond (flagWord s.displaying)) ∨
    ∃ hh mm mode v, (s.WallLegal → hh.toNat ≤ 23 ∧ mm.toNat ≤ 59) ∧
      t = { s with hours := hh, minutes := mm, displayNewStatus := mode, chargeLevel := v } := by
  cases i with
  | tick => cases h; exact .inl ⟨rfl, rfl⟩
  | getTime => cases h; exact .inr (.inr (.inr (.inl ⟨rfl, rfl⟩)))
  | isDisplayOn => cases h; exact .inr (.inr (.inr (.inr (.inl ⟨rfl, rfl⟩))))
  | update => cases h; exact .inr (.inl ⟨rfl, .update, rfl⟩)
  | off => cases h; exact .inr (.inl ⟨rfl, .off, rfl⟩)
  | busEnable => cases h; exact .inr (.inl ⟨rfl, .busEnable, rfl⟩)
  | setDigit slot code dot =>
    simp only [exec, execSetDigit] at h
    split at h
    · next c d _ _ => cases h; exact .inr (.inl ⟨rfl, .setDigit slot c d, rfl⟩)
    · cases h; exact .inr (.inr (.inl ⟨_, _, rfl⟩))
  | setTime hh mm =>
    simp only [exec, execSetTime] at h
    split at h
    · next hlegal =>
      cases h
      exact .inr (.inr (.inr (.inr (.inr ⟨hh, mm, _, _, fun _ => by simpa [timeInRange] using hlegal, rfl⟩))))
    · cases h; exact .inr (.inr (.inl ⟨_, _, rfl⟩))
  | nop | showTime | showCharge | showEmpty | showTimeAndCharge | setChargeLevel _ =>
    cases h
    exact .inr (.inr (.inr (.inr (.inr ⟨_, _, _, _, fun hwall => ⟨hwall.1, hwall.2.1⟩, rfl⟩))))

/-- A word is refused, with a fault and nothing else, or it is the encoding of the instruction it runs. -/
theorem State.takeWord_cases {s t : State} {p : Port} {w : Word} (h : s.takeWord p w = .next t) :
    (∃ c, t = s.raise c w) ∨ ∃ i, i.port = p ∧ encode i = w ∧ exec i s = .next t := by
  unfold State.takeWord at h
  split at h
  · next i hdecode =>
    obtain ⟨hport, henc⟩ := encode_of_decode hdecode
    exact .inr ⟨i, hport, henc, h⟩
  · next c _ => cases h; exact .inl ⟨c, rfl⟩

/-- An event resets the block, is a word refused, or runs an instruction: the one its word encodes on its port, or
TICK for a pulse (60_exceptions R201, R206; 70_reset_and_hazards R230). -/
theorem State.takeEvent_cases {s t : State} {e : Event} (h : s.takeEvent e = .next t) :
    (e = .reset ∧ t = s.resetEvent) ∨
    (∃ c w, t = s.raise c w) ∨
    ∃ i, (e = eventOn i.port (encode i) ∨ e = .tick ∧ i = .tick) ∧ exec i s = .next t := by
  have hword {p : Port} {w : Word} (hw : s.takeWord p w = .next t) :
      (∃ c w, t = s.raise c w) ∨
        ∃ i, (eventOn p w = eventOn i.port (encode i) ∨ eventOn p w = .tick ∧ i = .tick) ∧ exec i s = .next t := by
    obtain ⟨c, ht⟩ | ⟨i, rfl, rfl, hexec⟩ := s.takeWord_cases hw
    · exact .inl ⟨c, w, ht⟩
    · exact .inr ⟨i, .inl rfl, hexec⟩
  cases e with
  | command w => exact .inr (hword (p := .command) h)
  | muxWord u => exact .inr (hword (p := .mux) h)
  | tick => exact .inr (.inr ⟨.tick, .inr ⟨rfl, rfl⟩, h⟩)
  | reset => cases h; exact .inl ⟨rfl, rfl⟩

/-- A step that answers a state waited, or took the oldest event with clear ports (60_exceptions R204). -/
theorem step_cases {s t : State} (h : step s = .next t) :
    t = s ∨ ∃ e rest, s.events = e :: rest ∧ (s.begin rest).takeEvent e = .next t := by
  unfold step nextEvent at h
  split at h
  · nomatch h
  · cases h; exact .inl rfl
  · next e rest _ hevents => exact .inr ⟨e, rest, hevents, h⟩

/-- Everything a host's event can do, where no mux word comes between (30_encoding R88): a TICK, a reset, or writes
to registers of the engine, the fault and the response. -/
theorem State.takeEvent_hosted_cases {s t : State} {e : Event} (hhosted : e.hosted = true)
    (h : s.takeEvent e = .next t) :
    ((e = .tick ∨ e = .command 0x1000) ∧ t = s.tick) ∨
    (e = .reset ∧ t = s.resetEvent) ∨
    ∃ hh mm mode v f r, (s.WallLegal → hh.toNat ≤ 23 ∧ mm.toNat ≤ 59) ∧
      t = { s with hours := hh, minutes := mm, displayNewStatus := mode, chargeLevel := v, fault := f,
                   response := r } := by
  have hkeep : s.WallLegal → s.hours.toNat ≤ 23 ∧ s.minutes.toNat ≤ 59 := fun hwall => ⟨hwall.1, hwall.2.1⟩
  obtain hreset | ⟨c, w, rfl⟩ | ⟨i, he, hexec⟩ := s.takeEvent_cases h
  · exact .inr (.inl hreset)
  · exact .inr (.inr ⟨_, _, _, _, _, _, hkeep, rfl⟩)
  · obtain ⟨rfl, ht⟩ | ⟨hmux, -⟩ | ⟨c, w, rfl⟩ | ⟨-, rfl⟩ | ⟨-, rfl⟩ | ⟨hh, mm, mode, v, hwall, rfl⟩ :=
      exec_cases hexec
    · exact .inl ⟨he.symm.imp And.left id, ht⟩
    · obtain rfl | ⟨-, rfl⟩ := he
      · rw [hmux] at hhosted
        nomatch hhosted
      · nomatch hmux
    · exact .inr (.inr ⟨_, _, _, _, _, _, hkeep, rfl⟩)
    · exact .inr (.inr ⟨_, _, _, _, _, _, hkeep, rfl⟩)
    · exact .inr (.inr ⟨_, _, _, _, _, _, hkeep, rfl⟩)
    · exact .inr (.inr ⟨hh, mm, mode, v, _, _, hwall, rfl⟩)

/-! ## Reset (10_state R45) -/

/-- Settles O13. -/
theorem resetValueOfEveryElement : Obligations.ResetValueOfEveryElement := by
  rintro p s rfl
  and_intros <;> rfl

/-- A reset block is dark at the end of its cycle (70_reset_and_hazards R231), so the lit clause is empty. -/
theorem State.resetOf_inv {p : Params} (hp : p.Wf) : (State.resetOf p).Inv := by
  obtain ⟨htps, hperiod, -, hh, hm, hs⟩ := id hp
  have hquarter4 : 3 * p.tps < (State.resetOf p).displayCounter :=
    Nat.mul_lt_mul_of_pos_right (by decide) (by omega)
  exact {
    params := hp
    wall := ⟨hh, hm, hs⟩
    phase := show 0 < p.secPeriod by omega
    counterPositive := by omega
    counterBound := le_rfl
    idleIffOff := iff_of_true rfl hquarter4
    notDisplaying := fun _ => rfl
    dark := fun _ => ⟨rfl, rfl, rfl, rfl⟩
    lit := fun h => absurd hquarter4 h.not_gt
    hosted := fun _ he => nomatch he }

/-- Settles O17. -/
theorem resetSatisfiesInvariant : Obligations.ResetSatisfiesInvariant :=
  ⟨fun _ => State.resetOf_inv, State.resetOf_inv Config.params_wf⟩

/-! ## The response port (10_state R44) -/

/-- GET_TIME's word as a number (30_encoding R79). -/
theorem toNat_timeWord (hours : BitVec 5) (minutes : BitVec 6) :
    (timeWord hours minutes).toNat = 64 * hours.toNat + minutes.toNat := by
  have hhours : (0#5 ++ hours).toNat = hours.toNat :=
    (BitVec.toNat_append ..).trans (by simp)
  rw [timeWord, BitVec.toNat_append, ← Nat.shiftLeft_add_eq_or_of_lt minutes.isLt, Nat.shiftLeft_eq, hhours,
    Nat.mul_comm]

/-- IS_DISPLAY_ON's word as a number (30_encoding R80). -/
theorem toNat_flagWord (b : Bool) : (flagWord b).toNat = if b then 1 else 0 := by
  cases b <;> rfl

/-- No micro-operation responds (10_state R44). -/
theorem State.applyOp_response (s : State) (u : MicroOp) : (s.applyOp u).response = s.response := by
  obtain ⟨-, -, -, -, -, -, -, -, -, -, -, -, hresponse⟩ := s.applyOp_sameEngine u
  exact hresponse

/-- TICK does not respond (10_state R44). -/
theorem State.tick_response (s : State) : s.tick.response = s.response := by
  obtain ⟨-, -, -, -, -, -, -, -, -, -, -, -, hresponse⟩ := s.tick_engine
  exact hresponse

/-- Only the two accessors write the response port (10_state R44). -/
theorem exec_response_eq {i : Instr} {s t : State} (h : exec i s = .next t) (htime : i ≠ .getTime)
    (hflag : i ≠ .isDisplayOn) : t.response = s.response := by
  obtain ⟨-, rfl⟩ | ⟨-, u, rfl⟩ | ⟨c, w, rfl⟩ | ⟨hi, -⟩ | ⟨hi, -⟩ | ⟨hh, mm, mode, v, -, rfl⟩ := exec_cases h
  · exact s.tick_response
  · exact s.applyOp_response u
  · rfl
  · exact absurd hi htime
  · exact absurd hi hflag
  · rfl

/-- An event that is neither accessor's word leaves the response port as it found it. -/
theorem State.takeEvent_response_eq {s t : State} {e : Event} (h : s.takeEvent e = .next t)
    (hclear : s.response = none) (htime : e ≠ .command 0x7000) (hflag : e ≠ .command 0x9000) :
    t.response = none := by
  obtain ⟨-, rfl⟩ | ⟨c, w, rfl⟩ | ⟨i, he, hexec⟩ := s.takeEvent_cases h
  · rfl
  · exact hclear
  · rw [exec_response_eq hexec ?_ ?_, hclear]
    · rintro rfl
      exact htime (he.resolve_right (nomatch ·))
    · rintro rfl
      exact hflag (he.resolve_right (nomatch ·))

/-- Settles O12. -/
theorem onlyAccessorsRespond : Obligations.OnlyAccessorsRespond := by
  intro s t e rest hfault hevents hstep
  rw [step_of_event hfault hevents] at hstep
  refine ⟨?_, ?_, State.takeEvent_response_eq hstep rfl⟩
  · rintro rfl
    cases hstep
    exact ⟨_, rfl, toNat_timeWord _ _⟩
  · rintro rfl
    cases hstep
    exact ⟨_, rfl, toNat_flagWord _⟩

/-! ## The wall time (10_state R26) -/

/-- The cascading rollover keeps every range (41_tick R132). -/
theorem State.secondPassed_wallLegal {s : State} (hwall : s.WallLegal) : s.secondPassed.WallLegal := by
  obtain ⟨hh, hm, hs⟩ := hwall
  unfold State.secondPassed
  split
  · split
    · refine ⟨?_, Nat.zero_le _, Nat.zero_le _⟩
      show BitVec.toNat (if _ then _ else _) ≤ 23
      split
      · decide
      · bv_omega
    · exact ⟨hh, by bv_omega, Nat.zero_le _⟩
  · exact ⟨hh, hm, by bv_omega⟩

/-- TICK writes the wall time in step 1 only, by one second or not at all (41_tick R131). -/
theorem State.tick_wallLegal {s : State} (hwall : s.WallLegal) : s.tick.WallLegal := by
  obtain ⟨-, hh, hm, hs, -⟩ := s.tick_engine
  rw [State.WallLegal, hh, hm, hs]
  unfold State.countTick
  split
  · exact State.secondPassed_wallLegal hwall
  · exact hwall

/-- SET_TIME refuses what R26 does not allow, and TICK rolls over (42_requests R176, 41_tick R132). -/
theorem exec_wallLegal {i : Instr} {s t : State} (h : exec i s = .next t) (hwall : s.WallLegal) :
    t.WallLegal := by
  obtain ⟨-, rfl⟩ | ⟨-, u, rfl⟩ | ⟨c, w, rfl⟩ | ⟨-, rfl⟩ | ⟨-, rfl⟩ | ⟨hh, mm, mode, v, hlegal, rfl⟩ := exec_cases h
  · exact State.tick_wallLegal hwall
  · obtain ⟨-, hh, hm, hs, -⟩ := s.applyOp_sameEngine u
    rwa [State.WallLegal, hh, hm, hs]
  · exact hwall
  · exact hwall
  · exact hwall
  · exact ⟨(hlegal hwall).1, (hlegal hwall).2, hwall.2.2⟩

/-- Legal parameters reset the clock to a legal time (00_scope R9). -/
theorem State.resetOf_wallLegal {p : Params} (hp : p.Wf) : (State.resetOf p).WallLegal :=
  (State.resetOf_inv hp).wall

/-- Every event, a mux word and a refused word among them, keeps the wall time legal (10_state R26). -/
theorem step_wallLegal {s t : State} (hparams : s.params.Wf) (hwall : s.WallLegal) (h : step s = .next t) :
    t.WallLegal := by
  obtain rfl | ⟨e, rest, -, htake⟩ := step_cases h
  · exact hwall
  · obtain ⟨-, rfl⟩ | ⟨c, w, rfl⟩ | ⟨i, -, hexec⟩ := State.takeEvent_cases htake
    · exact State.resetOf_wallLegal hparams
    · exact hwall
    · exact exec_wallLegal hexec hwall

/-- Settles O19. -/
theorem wallTimeStaysLegal : Obligations.WallTimeStaysLegal :=
  ⟨fun _ => State.resetOf_wallLegal, fun _ _ => step_wallLegal⟩

/-! ## What reaches the display (10_state R22, R48) -/

/-- Settles O22. -/
theorem onlyTickAndResetReachTheDisplay : Obligations.OnlyTickAndResetReachTheDisplay := by
  intro s t e rest hfault hevents hhosted hpulse hword hreset hstep
  rw [step_of_event hfault hevents] at hstep
  obtain ⟨hpulse' | hword', -⟩ | ⟨hreset', -⟩ | ⟨hh, mm, mode, v, f, r, -, rfl⟩ :=
    State.takeEvent_hosted_cases hhosted hstep
  · exact absurd hpulse' hpulse
  · exact absurd hword' hword
  · exact absurd hreset' hreset
  · exact ⟨⟨rfl, rfl, rfl, rfl, rfl, rfl, rfl, rfl, rfl⟩, rfl, rfl, rfl, rfl, rfl, rfl⟩

/-! ## The display cycle: counter, quarter and mode after a TICK (41_tick R134 to R144) -/

/-- A TICK shows a new request from counter 1 on, advances a cycle that has not ended, or stays at the end of one
(41_tick R134 to R136). -/
theorem State.Inv.counterToShow_cases {s : State} (hinv : s.Inv) :
    (s.displayNewStatus ≠ .idle ∧ s.counterToShow = 1) ∨
    (s.displayNewStatus = .idle ∧ s.displayCounter < 4 * s.params.tps ∧
      s.counterToShow = s.displayCounter + 1) ∨
    (s.displayNewStatus = .idle ∧ s.displayCounter = 4 * s.params.tps ∧
      s.counterToShow = s.displayCounter) := by
  have htps : 0 < 4 * s.params.tps := Nat.mul_pos (by decide) (Nat.zero_lt_of_lt hinv.params.1)
  have hbound : s.displayCounter ≤ 4 * s.params.tps := hinv.counterBound
  by_cases hidle : s.displayNewStatus = .idle
  · obtain hlt | heq := hbound.lt_or_eq
    · exact .inr (.inl ⟨hidle, hlt, by simp [State.counterToShow, hidle, hlt]⟩)
    · exact .inr (.inr ⟨hidle, heq, by simp [State.counterToShow, hidle, heq]⟩)
  · exact .inl ⟨hidle, by simp [State.counterToShow, hidle, htps]⟩

/-- Between events the counter is in `1..4*TPS` again (10_state R31). -/
theorem State.Inv.counterToShow_range {s : State} (hinv : s.Inv) :
    1 ≤ s.counterToShow ∧ s.counterToShow ≤ 4 * s.params.tps := by
  have htps : 2 ≤ s.params.tps := hinv.params.1
  obtain ⟨-, h⟩ | ⟨-, hlt, h⟩ | ⟨-, heq, h⟩ := hinv.counterToShow_cases <;> omega

/-- Within quarters 1 to 3 some content class is shown: only quarter 4 leaves Idle (41_tick R142). -/
theorem State.Inv.modeToShow_ne_idle {s : State} (hinv : s.Inv) (hlit : s.counterToShow ≤ 3 * s.params.tps) :
    s.modeToShow ≠ .idle := by
  have htps : 2 ≤ s.params.tps := hinv.params.1
  obtain ⟨hreq, -⟩ | ⟨hidle, -, h⟩ | ⟨-, heq, h⟩ := hinv.counterToShow_cases
  · simp [State.modeToShow, hreq]
  · have hquarter : ¬ 3 * s.params.tps < s.displayCounter := by omega
    simpa [State.modeToShow, hidle, hinv.idleIffOff] using hquarter
  · omega

/-- Quarter 4 is every running counter beyond `3*TPS` (41_tick R138). -/
theorem quarterOf_eq_off_iff {tps c : Nat} (hc : 1 ≤ c) : quarterOf tps c = .off ↔ 3 * tps < c := by
  unfold quarterOf
  split_ifs <;> simp <;> omega

/-- Quarter 3 lies between `2*TPS` and `3*TPS` (41_tick R138). -/
theorem range_of_quarterOf_eq_charge {tps c : Nat} (h : quarterOf tps c = .charge) :
    2 * tps < c ∧ c ≤ 3 * tps := by
  unfold quarterOf at h
  split_ifs at h with _ _ hrange
  exact hrange

/-- The mode after a TICK is Idle in quarter 4, or where it was Idle already (41_tick R142). -/
theorem modeAfter_eq_idle_iff (q : Quarter) (mode : DisplayMode) :
    modeAfter q mode = .idle ↔ q = .off ∨ mode = .idle := by
  cases q <;> simp [modeAfter]

/-! ## The lines after a TICK (40_mux R103 to R106, 41_tick R139 to R144) -/

/-- The lines of quarters 1 to 3: the bus is enabled, and the slot last rendered is shown (40_mux R108). -/
abbrev State.Lit (s : State) : Prop := s.busEn = true ∧ s.Shows s.shownSlot

/-- The slot an UPDATE renders is the one it leaves shown (40_mux R103). -/
theorem State.updateMux_shownSlot (s : State) : s.updateMux.shownSlot = s.nextSlot := by
  simp [State.shownSlot, State.nextSlot, State.updateMux_eq]

/-- UPDATE shows the pending content of the slot it renders (40_mux R103). -/
theorem State.updateMux_shows (s : State) : s.updateMux.Shows s.updateMux.shownSlot := by
  rw [State.updateMux_shownSlot, State.updateMux_eq]
  exact ⟨rfl, rfl, beq_iff_eq⟩

/-- With the bus enabled, a final UPDATE lights the display, whatever is pending (40_mux R108, 41_tick R143). -/
theorem State.emit_update_lit {s : State} (hbus : s.busEn = true) : (s.emit .update).Lit :=
  ⟨(congrArg State.busEn s.updateMux_eq).trans hbus, s.updateMux_shows⟩

/-- Quarters 1 and 2 light the display in every mode: each enables the bus first and renders last
(41_tick R139, R140, R143). -/
theorem State.digitOps_lit (s : State) (mode : DisplayMode) (value : BitVec 6) (d : DotSlot) :
    (s.emitAll (digitOps mode value d)).Lit := by
  cases mode with
  | time | both | emptyBattery | idle | charge => exact State.emit_update_lit rfl

/-- Quarter 3 lights the gauge, or leaves a lit display alone (41_tick R141, R144). -/
theorem State.gaugeOps_lit {s : State} (hlit : s.Lit) (mode : DisplayMode) (cv : DigitCode) :
    (s.emitAll (gaugeOps mode cv)).Lit := by
  cases mode with
  | both => exact State.emit_update_lit rfl
  | idle | time | charge | emptyBattery => exact hlit

/-- What step 5 leaves on the lines in each quarter: only quarter 3 relies on the lines before it. -/
theorem State.quarterOps_lit {s : State} {q : Quarter} (hq : q ≠ .off) (hlit : q = .charge → s.Lit)
    (mode : DisplayMode) (hours : BitVec 5) (minutes : BitVec 6) (cv : DigitCode) :
    (s.emitAll (quarterOps q mode hours minutes cv)).Lit := by
  cases q with
  | hours => exact s.digitOps_lit mode _ .digit1
  | minutes => exact s.digitOps_lit mode _ .digit2
  | charge => exact State.gaugeOps_lit (hlit rfl) mode cv
  | off => exact absurd rfl hq

/-- Quarter 3 is reached from a lit counter: a new request would have gone to quarter 1 (41_tick R134). -/
theorem State.Inv.lit_of_charge {s : State} (hinv : s.Inv)
    (hcharge : quarterOf s.params.tps s.counterToShow = .charge) : s.Lit := by
  have htps : 2 ≤ s.params.tps := hinv.params.1
  have hrange := range_of_quarterOf_eq_charge hcharge
  apply hinv.lit
  obtain ⟨-, h⟩ | ⟨-, -, h⟩ | ⟨-, -, h⟩ := hinv.counterToShow_cases <;> omega

/-- A TICK that ends in quarters 1 to 3 leaves the display lit (41_tick R139 to R144). -/
theorem State.Inv.tick_lit {s : State} (hinv : s.Inv) (hcounter : s.counterToShow ≤ 3 * s.params.tps) :
    s.tick.Lit := by
  have hq : quarterOf s.params.tps s.counterToShow ≠ .off := by
    rw [Ne, quarterOf_eq_off_iff hinv.counterToShow_range.1]
    exact hcounter.not_gt
  rw [State.tick_eq, State.dispatchSlice_eq]
  exact State.quarterOps_lit (s := s.afterThree) hq hinv.lit_of_charge _ _ _ _

/-- A TICK that ends in quarter 4 turns every line off (41_tick R142). -/
theorem State.tick_dark {s : State} (hq : quarterOf s.params.tps s.counterToShow = .off) : s.tick.Dark := by
  have hquarter : s.afterThree.quarter = .off := hq
  rw [State.tick_eq, State.dispatchSlice_eq, hquarter]
  exact ⟨rfl, rfl, rfl, rfl⟩

/-! ## Every step keeps the invariant (10_state R26, R27, R31; 41_tick R136, R142, R144) -/

/-- TICK keeps the invariant. -/
theorem State.Inv.tick {s : State} (hinv : s.Inv) : s.tick.Inv := by
  obtain ⟨hparams, -, -, -, hphase, hmode, -, hdisplaying, hcounter, -, -, hevents, -⟩ := s.tick_engine
  obtain ⟨hpos, hbound⟩ := hinv.counterToShow_range
  have hoff := quarterOf_eq_off_iff (tps := s.params.tps) hpos
  exact {
    params := hparams ▸ hinv.params
    wall := State.tick_wallLegal hinv.wall
    phase := by
      have := hinv.phase
      rw [hphase, hparams]
      split <;> omega
    counterPositive := hcounter ▸ hpos
    counterBound := by rw [hcounter, hparams]; exact hbound
    idleIffOff := by
      rw [hmode, hcounter, hparams, modeAfter_eq_idle_iff, hoff]
      refine or_iff_left_of_imp fun hidle => ?_
      by_contra hlit
      exact hinv.modeToShow_ne_idle (not_lt.mp hlit) hidle
    notDisplaying := by
      rw [hdisplaying, hcounter, hparams, decide_eq_false_iff_not]
      intro hstopped
      have htps : 2 ≤ s.params.tps := hinv.params.1
      obtain ⟨hreq, -⟩ | ⟨hidle, hlt, -⟩ | ⟨-, heq, h⟩ := hinv.counterToShow_cases
      · rw [if_neg hreq] at hstopped
        omega
      · rw [if_pos hidle] at hstopped
        exact absurd hlt hstopped
      · exact h.trans heq
    dark := by
      rw [hcounter, hparams]
      exact fun hquarter4 => State.tick_dark (hoff.mpr hquarter4)
    lit := by
      rw [hcounter, hparams]
      exact hinv.tick_lit
    hosted := hevents ▸ hinv.hosted }

/-- Taking the oldest event off the list keeps the invariant. -/
theorem State.Inv.begin {s : State} (hinv : s.Inv) {e : Event} {rest : List Event}
    (hevents : s.events = e :: rest) : (s.begin rest).Inv :=
  { hinv with hosted := fun e' he' => hinv.hosted e' (hevents ▸ List.mem_cons_of_mem e he') }

/-- The events still to come are no part of what a reset loads (70_reset_and_hazards R230). -/
theorem State.Inv.resetEvent {s : State} (hinv : s.Inv) : s.resetEvent.Inv :=
  { State.resetOf_inv hinv.params with hosted := hinv.hosted }

/-- Every host event keeps the invariant: a command other than TICK writes nothing that it bounds but the clock. -/
theorem State.Inv.takeEvent {s t : State} (hinv : s.Inv) {e : Event} (hhosted : e.hosted = true)
    (h : s.takeEvent e = .next t) : t.Inv := by
  obtain ⟨-, rfl⟩ | ⟨-, rfl⟩ | ⟨hh, mm, mode, v, f, r, hlegal, rfl⟩ := State.takeEvent_hosted_cases hhosted h
  · exact hinv.tick
  · exact hinv.resetEvent
  · obtain ⟨hhours, hminutes⟩ := hlegal hinv.wall
    exact { hinv with wall := ⟨hhours, hminutes, hinv.wall.2.2⟩ }

/-- Settles O18. -/
theorem everyStepKeepsInvariant : Obligations.EveryStepKeepsInvariant := by
  intro s t hinv hstep
  obtain rfl | ⟨e, rest, hevents, htake⟩ := step_cases hstep
  · exact hinv
  · have hhosted : e.hosted = true := hinv.hosted e (hevents ▸ List.mem_cons_self)
    exact (hinv.begin hevents).takeEvent hhosted htake

end Machine
end Sys2Proof
end

section
/-! PROOFS. Memory (20_memory): the segment ROM and the other parameters stay what they are, and which commands may
be repeated freely. The lemmas of each part stand before the statements they settle. -/

namespace Sys2Proof.Machine

/-! ## The segment ROM (20_memory R50, 10_state R46) -/

/-- TICK writes no parameter: its micro-operations only read the ROM (20_memory R51). -/
theorem State.tick_params (s : State) : s.tick.params = s.params := by
  obtain ⟨hparams, -⟩ := s.tick_engine
  exact hparams

/-- A micro-operation reads the ROM at most; it writes no parameter (20_memory R51). -/
theorem State.applyOp_params (s : State) (u : MicroOp) : (s.applyOp u).params = s.params := by
  obtain ⟨hparams, -⟩ := s.applyOp_sameEngine u
  exact hparams

/-- No instruction, on either port, writes the parameters (20_memory R50). -/
theorem exec_params {i : Instr} {s t : State} (h : exec i s = .next t) : t.params = s.params := by
  obtain ⟨-, rfl⟩ | ⟨-, u, rfl⟩ | ⟨c, w, rfl⟩ | ⟨-, rfl⟩ | ⟨-, rfl⟩ | ⟨hh, mm, mode, v, -, rfl⟩ := exec_cases h
  · exact s.tick_params
  · exact s.applyOp_params u
  · exact s.raise_params c w
  · exact s.respond_params _
  · exact s.respond_params _
  · rfl

/-- No event writes the parameters: a reset loads the state elements under the parameters it finds
(70_reset_and_hazards R230). -/
theorem State.takeEvent_params {s t : State} {e : Event} (h : s.takeEvent e = .next t) : t.params = s.params := by
  obtain ⟨-, rfl⟩ | ⟨c, w, rfl⟩ | ⟨i, -, hexec⟩ := s.takeEvent_cases h
  · rfl
  · exact s.raise_params c w
  · exact exec_params hexec

/-- Settles O21. -/
theorem noStepWritesParametersOrRom : Obligations.NoStepWritesParametersOrRom := by
  intro s t hstep
  obtain rfl | ⟨e, rest, -, htake⟩ := step_cases hstep
  · rfl
  · exact (State.takeEvent_params htake).trans (s.begin_params rest)

/-! ## Idempotent commands (20_memory R56) -/

/-- SET_TIME with legal operands (42_requests R176). -/
theorem exec_setTime_of_inRange {hh : BitVec 5} {mm : BitVec 6} (hrange : timeInRange hh mm = true) (s : State) :
    exec (.setTime hh mm) s = .next { s with hours := hh, minutes := mm } :=
  if_pos hrange

/-- SET_TIME with an operand out of range (42_requests R176). -/
theorem exec_setTime_of_not_inRange {hh : BitVec 5} {mm : BitVec 6} (hrange : ¬ timeInRange hh mm = true)
    (s : State) : exec (.setTime hh mm) s = .next (s.raise .operandRange (encode (.setTime hh mm))) :=
  if_neg hrange

/-- Whether SET_TIME stores or refuses is decided by its operands alone, so the second one does what the first did. -/
theorem exec_setTime_idempotent {hh : BitVec 5} {mm : BitVec 6} {s t : State}
    (h : exec (.setTime hh mm) s = .next t) : exec (.setTime hh mm) t = .next t := by
  by_cases hrange : timeInRange hh mm = true
  · rw [exec_setTime_of_inRange hrange] at h ⊢
    cases h
    rfl
  · rw [exec_setTime_of_not_inRange hrange] at h ⊢
    cases h
    rfl

/-- Settles O31: every command but SET_TIME writes, if anything, one register, with a value that does not depend on
that register. -/
theorem commandsButTickAreIdempotent : Obligations.CommandsButTickAreIdempotent := by
  intro i s t hport htick h
  cases i with
  | tick => exact absurd rfl htick
  | setDigit _ _ _ | update | off | busEnable => nomatch hport
  | setTime hh mm => exact exec_setTime_idempotent h
  | nop | showTime | showCharge | showEmpty | showTimeAndCharge | getTime | setChargeLevel _ | isDisplayOn =>
    cases h
    rfl

end Sys2Proof.Machine
end

section
/-! PROOFS. Encoding (30_encoding): the fields of a word read back, the opcode maps, the three checks and their fault,
and GET_TIME's response as SET_TIME's operands. The lemmas of each part stand before the statements they settle. -/

namespace Sys2Proof

/-! ## The fields of an encoded word (30_encoding R71, R76) -/

/-- Joining a field below shifts what stands above it. -/
theorem toNat_append_field {m n : Nat} (hi : BitVec m) (lo : BitVec n) :
    (hi ++ lo).toNat = hi.toNat * 2 ^ n + lo.toNat := by
  rw [BitVec.toNat_append, ← Nat.shiftLeft_add_eq_or_of_lt lo.isLt, Nat.shiftLeft_eq]

/-- A field as a number: the word divided down to the field's place, and cut at its width. -/
theorem extractLsb'_eq_iff_toNat {w : Word} {start len : Nat} {v : BitVec len} :
    w.extractLsb' start len = v ↔ w.toNat / 2 ^ start % 2 ^ len = v.toNat := by
  rw [← BitVec.toNat_inj, BitVec.extractLsb'_toNat, Nat.shiftRight_eq_div_pow]

/-- `w[15:12]` as a number (30_encoding R70). -/
theorem toNat_opcodeField (w : Word) : (opcodeField w).toNat = w.toNat / 4096 := by
  have hfield : w.toNat / 2 ^ 12 % 2 ^ 4 = (opcodeField w).toNat := extractLsb'_eq_iff_toNat.mp rfl
  omega

/-- SET_TIME's word as a number (30_encoding R71). -/
theorem toNat_encode_setTime (hh : BitVec 5) (mm : BitVec 6) :
    (encode (.setTime hh mm)).toNat = 0x6000 + 64 * hh.toNat + mm.toNat := by
  simp only [encode, toNat_append_field, BitVec.toNat_ofNat]
  omega

/-- SET_CHARGE_LEVEL's word as a number (30_encoding R71). -/
theorem toNat_encode_setChargeLevel (v : BitVec 8) : (encode (.setChargeLevel v)).toNat = 0x8000 + v.toNat := by
  simp only [encode, toNat_append_field, BitVec.toNat_ofNat]
  omega

/-- SET_DIGIT's word as a number (30_encoding R76). -/
theorem toNat_encode_setDigit (slot : Slot) (code : BitVec 5) (dot : BitVec 2) :
    (encode (.setDigit slot code dot)).toNat =
      0x1000 + 256 * (bitOfSlot slot).toNat + 32 * dot.toNat + code.toNat := by
  simp only [encode, toNat_append_field, BitVec.toNat_ofNat]
  omega

/-- SET_TIME's word has a 0 in bit 11 (30_encoding R75). -/
theorem encode_setTime_reserved (hh : BitVec 5) (mm : BitVec 6) : encode (.setTime hh mm) &&& 0x0800 = 0 := by
  show (0x6#4 ++ 0#1 ++ hh ++ mm) &&& (0#4 ++ 1#1 ++ 0#5 ++ 0#6) = 0#4 ++ 0#1 ++ 0#5 ++ 0#6
  simp only [BitVec.and_append, BitVec.and_zero, BitVec.zero_and]

/-- SET_CHARGE_LEVEL's word has zeros in bits 11:8 (30_encoding R75). -/
theorem encode_setChargeLevel_reserved (v : BitVec 8) : encode (.setChargeLevel v) &&& 0x0F00 = 0 := by
  show (0x8#4 ++ 0#4 ++ v) &&& (0#4 ++ 0xF#4 ++ 0#8) = 0#4 ++ 0#4 ++ 0#8
  simp only [BitVec.and_append, BitVec.and_zero, BitVec.zero_and]

/-- SET_DIGIT's word has zeros in bits 11:9 and 7 (30_encoding R76). -/
theorem encode_setDigit_reserved (slot : Slot) (code : BitVec 5) (dot : BitVec 2) :
    encode (.setDigit slot code dot) &&& 0x0E80 = 0 := by
  show (0x1#4 ++ 0#3 ++ bitOfSlot slot ++ 0#1 ++ dot ++ code) &&& (0#4 ++ 0x7#3 ++ 0#1 ++ 1#1 ++ 0#2 ++ 0#5) =
    0#4 ++ 0#3 ++ 0#1 ++ 0#1 ++ 0#2 ++ 0#5
  simp only [BitVec.and_append, BitVec.and_zero, BitVec.zero_and]

/-! ## Decoding an encoded instruction (30_encoding R71 to R78) -/

/-- SET_TIME's two operands are read back (30_encoding R71). -/
theorem decode_encode_setTime (hh : BitVec 5) (mm : BitVec 6) :
    decode .command (encode (.setTime hh mm)) = .ok (.setTime hh mm) := by
  have hw := toNat_encode_setTime hh mm
  have hres := encode_setTime_reserved hh mm
  generalize encode (.setTime hh mm) = w at hw hres ⊢
  have hop : (opcodeField w).toNat = 6 := by rw [toNat_opcodeField]; omega
  have hhours : w.extractLsb' 6 5 = hh := extractLsb'_eq_iff_toNat.mpr (by omega)
  have hminutes : w.extractLsb' 0 6 = mm := extractLsb'_eq_iff_toNat.mpr (by omega)
  simp only [decode, decodeCommand, hop]
  exact checkReserved_eq_ok_iff.mpr ⟨hres, by rw [hhours, hminutes]⟩

/-- SET_CHARGE_LEVEL's byte is read back (30_encoding R71). -/
theorem decode_encode_setChargeLevel (v : BitVec 8) :
    decode .command (encode (.setChargeLevel v)) = .ok (.setChargeLevel v) := by
  have hw := toNat_encode_setChargeLevel v
  have hres := encode_setChargeLevel_reserved v
  generalize encode (.setChargeLevel v) = w at hw hres ⊢
  have hop : (opcodeField w).toNat = 8 := by rw [toNat_opcodeField]; omega
  have hbyte : w.extractLsb' 0 8 = v := extractLsb'_eq_iff_toNat.mpr (by omega)
  simp only [decode, decodeCommand, hop]
  exact checkReserved_eq_ok_iff.mpr ⟨hres, by rw [hbyte]⟩

/-- The bit `u[8]` tells the slot (30_encoding R78). -/
theorem bitOfSlot_injective : Function.Injective bitOfSlot :=
  Function.LeftInverse.injective (g := fun b => slotOfBit (b.getLsbD 0)) fun slot => by cases slot <;> rfl

/-- SET_DIGIT's three operands are read back (30_encoding R76). -/
theorem decode_encode_setDigit (slot : Slot) (code : BitVec 5) (dot : BitVec 2) :
    decode .mux (encode (.setDigit slot code dot)) = .ok (.setDigit slot code dot) := by
  have hw := toNat_encode_setDigit slot code dot
  have hres := encode_setDigit_reserved slot code dot
  generalize encode (.setDigit slot code dot) = u at hw hres ⊢
  have hop : (opcodeField u).toNat = 1 := by rw [toNat_opcodeField]; omega
  have hslot : slotOfBit (u.getLsbD 8) = slot :=
    bitOfSlot_injective ((bitOfSlot_slotOfBit u).trans (extractLsb'_eq_iff_toNat.mpr (by omega)))
  have hcode : u.extractLsb' 0 5 = code := extractLsb'_eq_iff_toNat.mpr (by omega)
  have hdot : u.extractLsb' 5 2 = dot := extractLsb'_eq_iff_toNat.mpr (by omega)
  simp only [decode, decodeMux, hop]
  exact checkReserved_eq_ok_iff.mpr ⟨hres, by rw [hslot, hcode, hdot]⟩

/-- Every instruction is read back from its word, operands out of range among them. -/
theorem decode_encode (i : Instr) : decode i.port (encode i) = .ok i := by
  cases i with
  | setTime hh mm => exact decode_encode_setTime hh mm
  | setChargeLevel v => exact decode_encode_setChargeLevel v
  | setDigit slot code dot => exact decode_encode_setDigit slot code dot
  | nop | tick | showTime | showCharge | showEmpty | showTimeAndCharge | getTime | isDisplayOn | update | off
  | busEnable => rfl

namespace Machine

/-- Settles O2. -/
theorem decodeOfEncodeIsTheInstruction : Obligations.DecodeOfEncodeIsTheInstruction :=
  decode_encode

/-- Settles O3. -/
theorem encodeOfDecodeIsTheWord : Obligations.EncodeOfDecodeIsTheWord :=
  fun _ _ _ => encode_of_decode

/-- Settles O1. -/
theorem wordsDecodeToTheirRows : Obligations.WordsDecodeToTheirRows := by
  and_intros <;> rfl

/-- A micro-operation's operands are legal by their types (41_tick R145). -/
theorem instrOf_wf (u : MicroOp) : (instrOf u).wf = true := by
  cases u with
  | setDigit slot code dot =>
    have hcode : (digitBits code).toNat ≤ 16 := by
      have := code.isLt
      rw [digitBits, BitVec.toNat_ofNat]
      omega
    have hdot : (dotCode dot).toNat ≤ 2 := by cases dot <;> decide
    simp [instrOf, Instr.wf, hcode, hdot]
  | update | off | busEnable => rfl

@[simp] theorem instrOf_port (u : MicroOp) : (instrOf u).port = .mux := by
  cases u <;> rfl

/-- Settles O48. -/
theorem microOperationsAreLegalWords : Obligations.MicroOperationsAreLegalWords := fun u =>
  ⟨instrOf_wf u, instrOf_port u, instrOf_port u ▸ decode_encode (instrOf u)⟩

/-! ## The first two checks of a word (30_encoding R81, R82, R85) -/

/-- The opcodes of a port that no row has, as `faultOfWord` names them (30_encoding R81, R82). -/
abbrev ReservedOpcode (p : Port) (op : Nat) : Prop :=
  (p = .command ∧ 0xA ≤ op) ∨ (p = .mux ∧ (op = 0 ∨ 5 ≤ op))

/-- A word's opcode is reserved, or its reserved bits alone decide whether it decodes (30_encoding R85). -/
theorem decode_cases (p : Port) (w : Word) :
    (ReservedOpcode p (w.toNat / 4096) ∧ decode p w = .error .illegalOpcode) ∨
    (¬ ReservedOpcode p (w.toNat / 4096) ∧
      ∃ i, decode p w = checkReserved (reservedBitsOf p (w.toNat / 4096)) w i) := by
  rw [← toNat_opcodeField]
  cases p with
  | command =>
    simp only [decode, decodeCommand]
    split
    case h_11 =>
      have hop : 0xA ≤ (opcodeField w).toNat := by
        simp only [imp_false] at *
        omega
      exact .inl ⟨.inl ⟨rfl, hop⟩, rfl⟩
    case h_1 hop | h_2 hop | h_3 hop | h_4 hop | h_5 hop | h_6 hop | h_7 hop | h_8 hop | h_9 hop | h_10 hop =>
      rw [hop]
      exact .inr ⟨by decide, _, rfl⟩
  | mux =>
    simp only [decode, decodeMux]
    split
    case h_5 =>
      have hop : (opcodeField w).toNat = 0 ∨ 5 ≤ (opcodeField w).toNat := by
        simp only [imp_false] at *
        omega
      exact .inl ⟨.inr ⟨rfl, hop⟩, rfl⟩
    case h_1 hop | h_2 hop | h_3 hop | h_4 hop =>
      rw [hop]
      exact .inr ⟨by decide, _, rfl⟩

/-! ## The rows of the opcode maps (30_encoding R72, R77, R83) -/

/-- A row's mask holds the opcode and exactly the reserved bits of its pattern's opcode, which are 0 in the pattern. -/
theorem opcodeRows_mask : ∀ r ∈ opcodeRows,
    ¬ ReservedOpcode r.port (r.pattern.toNat / 4096) ∧
      r.mask = 0xF000 ||| reservedBitsOf r.port (r.pattern.toNat / 4096) ∧
      r.pattern &&& reservedBitsOf r.port (r.pattern.toNat / 4096) = 0 := by
  decide

/-- No two rows of a port have the same opcode. -/
theorem opcodeRows_opcode_unique : ∀ r ∈ opcodeRows, ∀ r' ∈ opcodeRows,
    r.port = r'.port → r.pattern.toNat / 4096 = r'.pattern.toNat / 4096 → r = r' := by
  decide

theorem opcodeRows_nodup : opcodeRows.Nodup := by decide

/-- A word that spells a row is on the row's port, has its opcode, and passes the first two checks. -/
theorem checks_of_spells {r : OpcodeRow} (hr : r ∈ opcodeRows) {p : Port} {w : Word}
    (h : r.spells p w = true) :
    r.port = p ∧ w.toNat / 4096 = r.pattern.toNat / 4096 ∧ ¬ ReservedOpcode p (w.toNat / 4096) ∧
      w &&& reservedBitsOf p (w.toNat / 4096) = 0 := by
  obtain ⟨hport, hpattern⟩ : r.port = p ∧ w &&& r.mask = r.pattern := by simpa [OpcodeRow.spells] using h
  obtain ⟨hlegal, hmask, hzero⟩ := opcodeRows_mask r hr
  subst hport
  have hop : w.toNat / 4096 = r.pattern.toNat / 4096 := by
    have hones : (0xF000 : Word).extractLsb' 12 4 = BitVec.allOnes 4 := rfl
    rw [← toNat_opcodeField, ← toNat_opcodeField, ← hpattern, opcodeField, opcodeField, hmask,
      BitVec.extractLsb'_and, BitVec.extractLsb'_or, hones, BitVec.allOnes_or, BitVec.and_allOnes]
  refine ⟨rfl, hop, hop ▸ hlegal, ?_⟩
  rw [hop]
  generalize reservedBitsOf r.port (r.pattern.toNat / 4096) = reserved at hmask hzero ⊢
  calc w &&& reserved
      = w &&& r.mask &&& reserved := by
        rw [hmask, BitVec.and_assoc]
        congr 1
        ext
        simp +contextual
    _ = 0 := by rw [hpattern, hzero]

/-- A word that spells a row decodes (30_encoding R83). -/
theorem decode_ok_of_spells {r : OpcodeRow} (hr : r ∈ opcodeRows) {p : Port} {w : Word}
    (h : r.spells p w = true) : ∃ i, decode p w = .ok i := by
  obtain ⟨-, -, hlegal, hres⟩ := checks_of_spells hr h
  obtain ⟨hillegal, -⟩ | ⟨-, i, hi⟩ := decode_cases p w
  · exact absurd hillegal hlegal
  · exact ⟨i, hi.trans (checkReserved_eq_ok_iff.mpr ⟨hres, rfl⟩)⟩

/-- A word spells no two rows (30_encoding R83). -/
theorem spells_unique {r r' : OpcodeRow} (hr : r ∈ opcodeRows) (hr' : r' ∈ opcodeRows) {p : Port} {w : Word}
    (h : r.spells p w = true) (h' : r'.spells p w = true) : r = r' := by
  obtain ⟨hport, hop, -⟩ := checks_of_spells hr h
  obtain ⟨hport', hop', -⟩ := checks_of_spells hr' h'
  exact opcodeRows_opcode_unique r hr r' hr' (hport.trans hport'.symm) (hop.symm.trans hop')

/-- A row that a word spells is all that the opcode maps hold for the word. -/
theorem filter_spells_eq_singleton {r : OpcodeRow} (hr : r ∈ opcodeRows) {p : Port} {w : Word}
    (h : r.spells p w = true) : opcodeRows.filter (fun r' => r'.spells p w) = [r] := by
  refine List.perm_singleton.mp ((List.perm_ext_iff_of_nodup (opcodeRows_nodup.filter _)
    (List.nodup_singleton r)).mpr fun r' => ?_)
  rw [List.mem_filter, List.mem_singleton]
  constructor
  · rintro ⟨hr', h'⟩
    exact spells_unique hr' hr h' h
  · rintro rfl
    exact ⟨hr, h⟩

/-- The laws of each instruction's row, as one law of every instruction. -/
theorem spellsRow (i : Instr) : Laws.SpellsRow.Statement i := by
  cases i with
  | nop => exact Laws.SpellsRow.nop
  | tick => exact Laws.SpellsRow.tick
  | showTime => exact Laws.SpellsRow.showTime
  | showCharge => exact Laws.SpellsRow.showCharge
  | showEmpty => exact Laws.SpellsRow.showEmpty
  | showTimeAndCharge => exact Laws.SpellsRow.showTimeAndCharge
  | setTime hh mm => exact Laws.SpellsRow.setTime hh mm
  | getTime => exact Laws.SpellsRow.getTime
  | setChargeLevel v => exact Laws.SpellsRow.setChargeLevel v
  | isDisplayOn => exact Laws.SpellsRow.isDisplayOn
  | setDigit slot code dot => exact Laws.SpellsRow.setDigit slot code dot
  | update => exact Laws.SpellsRow.update
  | off => exact Laws.SpellsRow.off
  | busEnable => exact Laws.SpellsRow.busEnable

/-- Settles O4. -/
theorem decodedWordSpellsExactlyOneRow : Obligations.DecodedWordSpellsExactlyOneRow := by
  intro p w
  constructor
  · intro i hdecode
    obtain ⟨rfl, rfl⟩ := encode_of_decode hdecode
    obtain ⟨r, hr, hmnemonic, hspells⟩ := spellsRow i
    exact ⟨r, filter_spells_eq_singleton hr hspells, hmnemonic⟩
  · intro c hdecode
    rw [List.filter_eq_nil_iff]
    intro r hr hspells
    obtain ⟨i, hi⟩ := decode_ok_of_spells hr hspells
    rw [hi] at hdecode
    nomatch hdecode

/-! ## The fault of a word (30_encoding R85, 60_exceptions R203) -/

/-- The second check refuses with RESERVED_BITS only. -/
theorem checkReserved_eq_error_iff {reserved w : Word} {i : Instr} {c : FaultCode} :
    checkReserved reserved w i = .error c ↔ w &&& reserved ≠ 0 ∧ c = .reservedBits := by
  unfold checkReserved
  split <;> simp_all [eq_comm]

/-- A word that does not decode failed the first or the second check, and its fault is that check's. -/
theorem faultOfWord_of_decode_error {p : Port} {w : Word} {c : FaultCode} (h : decode p w = .error c) :
    faultOfWord p w = some c := by
  unfold faultOfWord
  obtain ⟨hillegal, hdecode⟩ | ⟨hlegal, i, hdecode⟩ := decode_cases p w <;> rw [hdecode] at h
  · cases h
    exact if_pos hillegal
  · obtain ⟨hres, rfl⟩ := checkReserved_eq_error_iff.mp h
    exact (if_neg hlegal).trans (if_pos hres)

/-- The ranges of SET_TIME's operands, as the third check tests them (30_encoding R73). -/
theorem wf_setTime_iff (hh : BitVec 5) (mm : BitVec 6) :
    (Instr.setTime hh mm).wf = true ↔ ¬ (23 < hh.toNat ∨ 59 < mm.toNat) := by
  simp [Instr.wf]

/-- The ranges of SET_DIGIT's operands, as the third check tests them (30_encoding R78). -/
theorem wf_setDigit_iff (slot : Slot) (code : BitVec 5) (dot : BitVec 2) :
    (Instr.setDigit slot code dot).wf = true ↔ ¬ (16 < code.toNat ∨ dot.toNat = 3) := by
  simp only [Instr.wf, Bool.and_eq_true, decide_eq_true_eq]
  omega

/-- A word that decodes passed the first two checks; the third one is of its instruction's operands. -/
theorem faultOfWord_of_decode_ok {p : Port} {w : Word} {i : Instr} (h : decode p w = .ok i) :
    faultOfWord p w = if i.wf then none else some .operandRange := by
  obtain ⟨-, hdecode⟩ | ⟨hlegal, j, hdecode⟩ := decode_cases p w <;> rw [hdecode] at h
  · nomatch h
  obtain ⟨hres, rfl⟩ := checkReserved_eq_ok_iff.mp h
  obtain ⟨rfl, rfl⟩ := encode_of_decode (hdecode.trans h)
  unfold faultOfWord
  rw [if_neg hlegal, if_neg (not_not.mpr hres)]
  cases j with
  | setTime hh mm =>
    have hw := toNat_encode_setTime hh mm
    have hop : (encode (.setTime hh mm)).toNat / 4096 = 6 := by omega
    have hhours : (encode (.setTime hh mm)).toNat / 64 % 32 = hh.toNat := by omega
    have hminutes : (encode (.setTime hh mm)).toNat % 64 = mm.toNat := by omega
    simp [Instr.port, hop, hhours, hminutes, wf_setTime_iff, -not_or, ite_not]
  | setDigit slot code dot =>
    have hw := toNat_encode_setDigit slot code dot
    have hop : (encode (.setDigit slot code dot)).toNat / 4096 = 1 := by omega
    have hcode : (encode (.setDigit slot code dot)).toNat % 32 = code.toNat := by omega
    have hdot : (encode (.setDigit slot code dot)).toNat / 32 % 4 = dot.toNat := by omega
    simp [Instr.port, hop, hcode, hdot, wf_setDigit_iff, -not_or, ite_not]
  | setChargeLevel v =>
    have hop : (encode (.setChargeLevel v)).toNat / 4096 = 8 := by
      rw [toNat_encode_setChargeLevel]
      omega
    simp [Instr.port, Instr.wf, hop]
  | nop | tick | showTime | showCharge | showEmpty | showTimeAndCharge | getTime | isDisplayOn | update | off
  | busEnable => rfl

/-- A micro-operation raises no fault (40_mux R107). -/
theorem State.applyOp_fault (s : State) (u : MicroOp) : (s.applyOp u).fault = s.fault := by
  obtain ⟨-, -, -, -, -, -, -, -, -, -, hfault, -⟩ := s.applyOp_sameEngine u
  exact hfault

theorem State.tick_fault (s : State) : s.tick.fault = s.fault := by
  obtain ⟨-, -, -, -, -, -, -, -, -, -, hfault, -⟩ := s.tick_engine
  exact hfault

/-- The codes that name a digit (30_encoding R78). -/
theorem isSome_digitCodeOf (code : BitVec 5) : (digitCodeOf code).isSome = decide (code.toNat ≤ 16) := by
  revert code
  decide

/-- The dots that have a name (10_state R34). -/
theorem isSome_dotSlotOf (dot : BitVec 2) : (dotSlotOf dot).isSome = decide (dot.toNat ≤ 2) := by
  revert dot
  decide

/-- SET_DIGIT's third check is that both operands have a meaning (40_mux R102). -/
theorem wf_setDigit (slot : Slot) (code : BitVec 5) (dot : BitVec 2) :
    (Instr.setDigit slot code dot).wf = ((digitCodeOf code).isSome && (dotSlotOf dot).isSome) := by
  rw [isSome_digitCodeOf, isSome_dotSlotOf, Instr.wf]

/-- SET_DIGIT with legal operands is a micro-operation's mux rule (40_mux R102). -/
theorem exec_setDigit_of_wf {slot : Slot} {code : BitVec 5} {dot : BitVec 2}
    (h : (Instr.setDigit slot code dot).wf = true) (s : State) :
    ∃ c d, exec (.setDigit slot code dot) s = .next (s.applyOp (.setDigit slot c d)) := by
  rw [wf_setDigit, Bool.and_eq_true, Option.isSome_iff_exists, Option.isSome_iff_exists] at h
  obtain ⟨⟨c, hc⟩, ⟨d, hd⟩⟩ := h
  exact ⟨c, d, by simp [exec, execSetDigit, State.applyOp, hc, hd]⟩

/-- SET_DIGIT with an operand out of range (40_mux R102). -/
theorem exec_setDigit_of_not_wf {slot : Slot} {code : BitVec 5} {dot : BitVec 2}
    (h : ¬ (Instr.setDigit slot code dot).wf = true) (s : State) :
    exec (.setDigit slot code dot) s = .next (s.raise .operandRange (encode (.setDigit slot code dot))) := by
  rw [wf_setDigit] at h
  simp only [exec, execSetDigit]
  split
  · next hc hd => simp [hc, hd] at h
  · rfl

/-- An instruction whose operands are in range raises no fault: its meaning checks nothing else. -/
theorem exec_fault_of_wf {i : Instr} (h : i.wf = true) (s : State) :
    ∃ t, exec i s = .next t ∧ t.fault = s.fault := by
  cases i with
  | tick => exact ⟨_, rfl, s.tick_fault⟩
  | setTime hh mm => exact ⟨_, exec_setTime_of_inRange h s, rfl⟩
  | setDigit slot code dot =>
    obtain ⟨c, d, hexec⟩ := exec_setDigit_of_wf h s
    exact ⟨_, hexec, s.applyOp_fault _⟩
  | update => exact ⟨_, rfl, s.applyOp_fault .update⟩
  | nop | showTime | showCharge | showEmpty | showTimeAndCharge | getTime | setChargeLevel _ | isDisplayOn | off
  | busEnable => exact ⟨_, rfl, rfl⟩

/-- The third check: an instruction with an operand out of range raises OPERAND_RANGE with its own word. -/
theorem exec_of_not_wf {i : Instr} (h : ¬ i.wf = true) (s : State) :
    exec i s = .next (s.raise .operandRange (encode i)) := by
  cases i with
  | setTime hh mm => exact exec_setTime_of_not_inRange h s
  | setDigit slot code dot => exact exec_setDigit_of_not_wf h s
  | nop | tick | showTime | showCharge | showEmpty | showTimeAndCharge | getTime | setChargeLevel _ | isDisplayOn
  | update | off | busEnable => exact absurd rfl h

/-- A word is refused with the fault of the first check that fails, and nothing else happens (60_exceptions R201). -/
theorem State.takeWord_of_faultOfWord_eq_some {p : Port} {w : Word} {c : FaultCode}
    (h : faultOfWord p w = some c) (s : State) : s.takeWord p w = .next (s.raise c w) := by
  cases hdecode : decode p w with
  | error c' =>
    obtain rfl : c' = c := Option.some.inj ((faultOfWord_of_decode_error hdecode).symm.trans h)
    simp [State.takeWord, hdecode]
  | ok i =>
    rw [faultOfWord_of_decode_ok hdecode] at h
    obtain ⟨-, henc⟩ := encode_of_decode hdecode
    split at h
    · nomatch h
    · next hwf =>
      cases h
      rw [s.takeWord_of_decode_ok hdecode, exec_of_not_wf hwf, henc]

/-- A word that passes the three checks leaves the fault as it was. -/
theorem State.takeWord_of_faultOfWord_eq_none {p : Port} {w : Word} (h : faultOfWord p w = none) (s : State) :
    ∃ t, s.takeWord p w = .next t ∧ t.fault = s.fault := by
  cases hdecode : decode p w with
  | error c => nomatch (faultOfWord_of_decode_error hdecode).symm.trans h
  | ok i =>
    rw [faultOfWord_of_decode_ok hdecode] at h
    rw [s.takeWord_of_decode_ok hdecode]
    split at h
    · next hwf => exact exec_fault_of_wf hwf s
    · nomatch h

/-- Settles O5. -/
theorem firstFailedCheckDecidesTheFault : Obligations.FirstFailedCheckDecidesTheFault := by
  intro p w s rest hfault hevents
  rw [step_of_event hfault hevents, State.takeEvent_eventOn]
  cases hc : faultOfWord p w with
  | some c => exact State.takeWord_of_faultOfWord_eq_some hc _
  | none =>
    obtain ⟨t, ht, hkeep⟩ := State.takeWord_of_faultOfWord_eq_none hc (s.begin rest)
    exact ⟨t, ht, hkeep.trans hfault⟩

/-! ## GET_TIME's response as SET_TIME's operands (30_encoding R79) -/

/-- SET_TIME's opcode on GET_TIME's response is SET_TIME's word: the layouts match. -/
theorem setTime_or_timeWord (hours : BitVec 5) (minutes : BitVec 6) :
    0x6000 ||| timeWord hours minutes = encode (.setTime hours minutes) := by
  show (0x6#4 ++ 0#1 ++ 0#5 ++ 0#6) ||| (0#4 ++ 0#1 ++ hours ++ minutes) = 0x6#4 ++ 0#1 ++ hours ++ minutes
  simp only [BitVec.or_append, BitVec.or_zero, BitVec.zero_or]

/-- Settles O28. -/
theorem setTimeOfResponseRestoresTheTime : Obligations.SetTimeOfResponseRestoresTheTime := by
  intro s
  have hword := toNat_timeWord s.hours s.minutes
  refine ⟨timeWord s.hours s.minutes, rfl, extractLsb'_eq_iff_toNat.mpr ?_, extractLsb'_eq_iff_toNat.mpr ?_,
    extractLsb'_eq_iff_toNat.mpr ?_, ?_, ?_⟩
  · show _ = 0
    omega
  · omega
  · omega
  · rw [setTime_or_timeWord]
    exact decode_encode_setTime _ _
  · rintro ⟨hhours, hminutes, -⟩ t
    exact exec_setTime_of_inRange (by simp [timeInRange, hhours, hminutes]) t

end Machine
end Sys2Proof
end

section
/-! PROOFS. Assembly (30_encoding section 3): a line cut back into its mnemonic and operands, the operands read back,
and the pseudo-instructions. The lemmas of each part stand before the statements they settle. -/

namespace Sys2Proof.Machine

/-! ## Words and texts of a line (30_encoding R86) -/

/-- A word of a line: text that no reader cuts. -/
abbrev IsToken (cs : List Char) : Prop := cs ≠ [] ∧ ∀ c ∈ cs, c ≠ ' ' ∧ c ≠ ',' ∧ c ≠ ';'

/-- Text without a comment that has no blank at either end. -/
structure PlainText (cs : List Char) : Prop where
  nonempty : cs ≠ []
  head : cs.head? ≠ some ' '
  last : cs.getLast? ≠ some ' '
  noComment : ∀ c ∈ cs, c ≠ ';'

theorem IsToken.plainText {cs : List Char} (h : IsToken cs) : PlainText cs :=
  { nonempty := h.1
    head := fun hhead => (h.2 _ (List.mem_of_head? hhead)).1 rfl
    last := fun hlast => (h.2 _ (List.mem_of_getLast? hlast)).1 rfl
    noComment := fun c hc => (h.2 c hc).2.2 }

/-- Only the outer ends of joined texts count. -/
theorem PlainText.join {as mid bs : List Char} (ha : PlainText as) (hmid : ∀ c ∈ mid, c ≠ ';')
    (hb : PlainText bs) : PlainText (as ++ mid ++ bs) :=
  { nonempty := List.append_ne_nil_of_right_ne_nil _ hb.nonempty
    head := by
      rw [List.append_assoc, List.head?_append_of_ne_nil _ ha.nonempty]
      exact ha.head
    last := by
      rw [List.getLast?_append_of_ne_nil _ hb.nonempty]
      exact hb.last
    noComment := List.forall_mem_append.mpr ⟨List.forall_mem_append.mpr ⟨ha.noComment, hmid⟩, hb.noComment⟩ }

theorem PlainText.trimBlanks_eq {cs : List Char} (h : PlainText cs) : trimBlanks cs = cs :=
  trimBlanks_of_no_blank_ends cs h.head h.last

theorem trimBlanks_nil : trimBlanks [] = [] := rfl

/-- A blank in front is dropped. -/
theorem trimBlanks_cons_blank (cs : List Char) : trimBlanks (' ' :: cs) = trimBlanks cs := rfl

/-! ## Operands cut apart again -/

/-- The operands of a line as `lineOf` joins them (30_encoding R86). -/
def operandList (ops : List (List Char)) : List Char := [',', ' '].intercalate ops

theorem operandList_singleton (t : List Char) : operandList [t] = t := List.intercalate_singleton

theorem operandList_cons_cons (t u : List Char) (ts : List (List Char)) :
    operandList (t :: u :: ts) = t ++ [',', ' '] ++ operandList (u :: ts) := List.intercalate_cons_cons

theorem operandList_plainText {t : List Char} {ts : List (List Char)} (h : ∀ u ∈ t :: ts, IsToken u) :
    PlainText (operandList (t :: ts)) := by
  induction ts generalizing t with
  | nil =>
    rw [operandList_singleton]
    exact (h t List.mem_cons_self).plainText
  | cons u ts ih =>
    obtain ⟨ht, hts⟩ := List.forall_mem_cons.mp h
    rw [operandList_cons_cons]
    exact ht.plainText.join (by simp) (ih hts)

theorem splitCommas_ne_nil (cs : List Char) : splitCommas cs ≠ [] := by
  cases cs with
  | nil => exact List.cons_ne_nil _ _
  | cons c cs =>
    unfold splitCommas
    split
    · exact List.cons_ne_nil _ _
    · split <;> exact List.cons_ne_nil _ _

/-- The text before the first comma is the first operand. -/
theorem splitCommas_append_comma {cs : List Char} (h : ∀ c ∈ cs, c ≠ ',') (rest : List Char) :
    splitCommas (cs ++ ',' :: rest) = cs :: splitCommas rest := by
  induction cs with
  | nil => rfl
  | cons c cs ih =>
    obtain ⟨hc, hcs⟩ := List.forall_mem_cons.mp h
    rw [List.cons_append, splitCommas, ih hcs, if_neg (by simpa using hc)]

/-- A blank in front of the operands goes with the first operand, which is trimmed. -/
theorem map_trimBlanks_splitCommas_blank (cs : List Char) :
    (splitCommas (' ' :: cs)).map trimBlanks = (splitCommas cs).map trimBlanks := by
  rw [splitCommas, if_neg (by decide)]
  split
  · next hnil => exact absurd hnil (splitCommas_ne_nil cs)
  · next t ts hcons => rw [hcons, List.map_cons, List.map_cons, trimBlanks_cons_blank]

/-- Joined operands are cut apart again. -/
theorem splitCommas_operandList {t : List Char} {ts : List (List Char)} (h : ∀ u ∈ t :: ts, IsToken u) :
    (splitCommas (operandList (t :: ts))).map trimBlanks = t :: ts := by
  have hcomma : ∀ {u}, u ∈ t :: ts → ∀ c ∈ u, c ≠ ',' := fun hu c hc => ((h _ hu).2 c hc).2.1
  induction ts generalizing t with
  | nil =>
    rw [operandList_singleton, splitCommas_of_no_comma t fun hc => hcomma List.mem_cons_self _ hc rfl,
      List.map_singleton, (h t List.mem_cons_self).plainText.trimBlanks_eq]
  | cons u ts ih =>
    obtain ⟨ht, hts⟩ := List.forall_mem_cons.mp h
    calc (splitCommas (operandList (t :: u :: ts))).map trimBlanks
        = (splitCommas (t ++ ',' :: ' ' :: operandList (u :: ts))).map trimBlanks := by
          rw [operandList_cons_cons, List.append_assoc]; rfl
      _ = trimBlanks t :: (splitCommas (' ' :: operandList (u :: ts))).map trimBlanks := by
          rw [splitCommas_append_comma (hcomma List.mem_cons_self), List.map_cons]
      _ = t :: u :: ts := by
          rw [ht.plainText.trimBlanks_eq, map_trimBlanks_splitCommas_blank,
            ih hts fun hu => hcomma (List.mem_cons_of_mem _ hu)]

/-! ## A line cut into its mnemonic and operands -/

/-- A mnemonic alone is a line without operands. -/
theorem assembleLine_mnemonic {m : List Char} (p : Params) (hm : IsToken m) :
    assembleLine p m = assembleParts p m [] := by
  have hcomment : m.takeWhile (· != ';') = m := by
    simpa [List.takeWhile_eq_self_iff] using hm.plainText.noComment
  have hfirst : m.takeWhile (· != ' ') = m := by
    simpa [List.takeWhile_eq_self_iff] using fun c hc => (hm.2 c hc).1
  have hrest : m.dropWhile (· != ' ') = [] := by
    simpa [List.dropWhile_eq_nil_iff] using fun c hc => (hm.2 c hc).1
  simp [assembleLine, hcomment, hm.plainText.trimBlanks_eq, hm.1, hfirst, hrest, trimBlanks_nil]

/-- A mnemonic, a blank and the joined operands are read as just these. -/
theorem assembleLine_operands {m t : List Char} {ts : List (List Char)} (p : Params) (hm : IsToken m)
    (hops : ∀ u ∈ t :: ts, IsToken u) :
    assembleLine p (m ++ ' ' :: operandList (t :: ts)) = assembleParts p m (t :: ts) := by
  have hbody := operandList_plainText hops
  have hsplit := splitCommas_operandList hops
  generalize operandList (t :: ts) = body at hbody hsplit ⊢
  have hline : PlainText (m ++ ' ' :: body) := by
    simpa using hm.plainText.join (mid := [' ']) (by simp) hbody
  have hcomment : (m ++ ' ' :: body).takeWhile (· != ';') = m ++ ' ' :: body :=
    List.takeWhile_eq_self_iff.mpr fun c hc => bne_iff_ne.mpr (hline.noComment c hc)
  have hblank : ∀ c ∈ m, (c != ' ') = true := fun c hc => bne_iff_ne.mpr (hm.2 c hc).1
  have hfirst : (m ++ ' ' :: body).takeWhile (· != ' ') = m := by
    simp [List.takeWhile_append_of_pos hblank]
  have hrest : (m ++ ' ' :: body).dropWhile (· != ' ') = ' ' :: body := by
    simp [List.dropWhile_append_of_pos hblank]
  simp [assembleLine, hcomment, hline.trimBlanks_eq, hfirst, hrest, trimBlanks_cons_blank, hbody.trimBlanks_eq,
    hbody.nonempty, hsplit]

/-! ## Operands read back (30_encoding R86) -/

theorem decimalText_isToken (n : Nat) : IsToken (decimalText n) :=
  ⟨decimalText_ne_nil n, decimalText_separators n⟩

/-- A dot has a name exactly when it is not 3 (30_encoding R86). -/
theorem isSome_dotText_iff (dot : BitVec 2) : (dotText dot).isSome = true ↔ dot ≠ 3 := by
  revert dot
  decide

/-- The name of a dot is a word, and it is read back. -/
theorem readDot_dotText {dot : BitVec 2} {d : List Char} (h : dotText dot = some d) :
    IsToken d ∧ readDot d = some dot := by
  have hcode : BitVec.ofNat 2 dot.toNat = dot := by simp
  unfold dotText at h
  split at h
  case h_4 => nomatch h
  case h_1 hdot | h_2 hdot | h_3 hdot =>
    obtain rfl := Option.some.inj h
    rw [hdot] at hcode
    subst hcode
    exact ⟨by simp [IsToken], rfl⟩

theorem mnemonic_isToken (i : Instr) : IsToken i.mnemonic.toList := by
  cases i <;> simp [Instr.mnemonic, IsToken]

/-- Every operand is written as one word (30_encoding R86). -/
theorem operandTexts_isToken {i : Instr} {ops : List (List Char)} (h : operandTexts i = some ops) :
    ∀ t ∈ ops, IsToken t := by
  cases i with
  | setTime hh mm =>
    cases h
    simpa using ⟨decimalText_isToken _, decimalText_isToken _⟩
  | setChargeLevel v =>
    cases h
    simpa using decimalText_isToken _
  | setDigit slot code dot =>
    obtain ⟨d, hd, rfl⟩ := Option.map_eq_some_iff.mp h
    simpa using ⟨decimalText_isToken _, decimalText_isToken _, (readDot_dotText hd).1⟩
  | nop | tick | showTime | showCharge | showEmpty | showTimeAndCharge | getTime | isDisplayOn | update | off
  | busEnable =>
    cases h
    exact fun t ht => nomatch ht

/-- The operand `slot` is read back as the slot's number. -/
theorem slotOfBit_bitOfSlot (slot : Slot) : slotOfBit ((bitOfSlot slot).toNat == 1) = slot := by
  cases slot <;> rfl

/-- The mnemonic and the operands of an instruction are read as the instruction. -/
theorem assembleParts_operandTexts (p : Params) {i : Instr} {ops : List (List Char)}
    (h : operandTexts i = some ops) : assembleParts p i.mnemonic.toList ops = some [i] := by
  cases i with
  | setTime hh mm =>
    cases h
    simp [assembleParts, Instr.mnemonic, readDecimal_decimalText, hh.isLt, mm.isLt]
  | setChargeLevel v =>
    cases h
    simp [assembleParts, Instr.mnemonic, readDecimal_decimalText, v.isLt]
  | setDigit slot code dot =>
    obtain ⟨d, hd, rfl⟩ := Option.map_eq_some_iff.mp h
    simp [assembleParts, Instr.mnemonic, readDecimal_decimalText, code.isLt, (bitOfSlot slot).isLt,
      (readDot_dotText hd).2, slotOfBit_bitOfSlot]
  | nop | tick | showTime | showCharge | showEmpty | showTimeAndCharge | getTime | isDisplayOn | update | off
  | busEnable =>
    cases h
    rfl

/-! ## Lines of instructions and pseudo-instructions (30_encoding R86, R87) -/

/-- The line of an instruction is cut into what it was written from, and read back. -/
theorem assembleLine_lineOf (p : Params) {i : Instr} {l : List Char} (h : lineOf i = some l) :
    assembleLine p l = some [i] := by
  obtain ⟨ops, hops, rfl⟩ := Option.map_eq_some_iff.mp h
  rw [← assembleParts_operandTexts p hops]
  cases ops with
  | nil => simpa using assembleLine_mnemonic p (mnemonic_isToken i)
  | cons t ts => exact assembleLine_operands p (mnemonic_isToken i) (operandTexts_isToken hops)

/-- The only operand without a text is the dot 3 (30_encoding R86). -/
theorem exists_lineOf_iff (i : Instr) :
    (∃ l, lineOf i = some l) ↔ ∀ (slot : Slot) (code : BitVec 5), i ≠ .setDigit slot code 3 := by
  cases i with
  | setDigit slot code dot =>
    have hline : (lineOf (.setDigit slot code dot)).isSome = (dotText dot).isSome := by
      simp [lineOf, operandTexts]
    rw [← Option.isSome_iff_exists, hline, isSome_dotText_iff]
    simp
  | nop | tick | showTime | showCharge | showEmpty | showTimeAndCharge | setTime _ _ | getTime | setChargeLevel _
  | isDisplayOn | update | off | busEnable => exact iff_of_true ⟨_, rfl⟩ fun _ _ => nofun

/-- Settles O52. -/
theorem assembledLineIsTheInstruction : Obligations.AssembledLineIsTheInstruction :=
  fun p i => ⟨fun _ => assembleLine_lineOf p, exists_lineOf_iff i⟩

/-- `TICKS` with a decimal number is that number of TICKs, and no line where it is 0 (30_encoding R87). -/
theorem assembleLine_ticks (p : Params) (n : Nat) :
    assembleLine p ("TICKS ".toList ++ decimalText n) = if 1 ≤ n then some (ticksPseudo n) else none := by
  have hline : "TICKS ".toList ++ decimalText n = "TICKS".toList ++ ' ' :: operandList [decimalText n] := by
    simp [operandList_singleton]
  rw [hline, assembleLine_operands p (by simp [IsToken]) (by simpa using decimalText_isToken n)]
  simp [assembleParts]

/-- TICK's word, as often as the pseudo-instruction says (30_encoding R87). -/
theorem assembledWords_ticksPseudo (n : Nat) : assembledWords (ticksPseudo n) = List.replicate n 0x1000 :=
  List.map_replicate

/-- Settles O53. -/
theorem pseudoInstructionsExpandToTicks : Obligations.PseudoInstructionsExpandToTicks := by
  refine ⟨fun p n hn => ?_, fun p => ?_, fun p => ?_⟩
  · have hline : assembleLine p ("TICKS ".toList ++ decimalText n) = some (ticksPseudo n) :=
      (assembleLine_ticks p n).trans (if_pos hn)
    exact ⟨hline, by rw [hline, Option.map_some, assembledWords_ticksPseudo]⟩
  · have hline : "TICKS 0".toList = "TICKS ".toList ++ decimalText 0 := by simp [decimalText]
    rw [hline, assembleLine_ticks]
    rfl
  · rw [assembleLine_mnemonic p (by simp [IsToken])]
    rfl

end Sys2Proof.Machine
end

section
/-! PROOFS. The mux (40_mux): what SET_DIGIT stores and refuses, the slot UPDATE renders, and UPDATEs in a row. The
lemmas of each part stand before the statements they settle. -/

namespace Sys2Proof

/-! ## SET_DIGIT's word (30_encoding R76, R78) -/

/-- SET_DIGIT's word as its fields add up (30_encoding R76). -/
theorem encode_setDigit_eq_ofNat (slot : Slot) (code : BitVec 5) (dot : BitVec 2) :
    encode (.setDigit slot code dot) =
      BitVec.ofNat 16 (0x1000 + 256 * (bitOfSlot slot).toNat + 32 * dot.toNat + code.toNat) := by
  rw [← toNat_encode_setDigit, BitVec.ofNat_toNat, BitVec.setWidth_eq]

theorem encode_setDigit_slot0 (code : BitVec 5) (dot : BitVec 2) :
    encode (.setDigit .slot0 code dot) = BitVec.ofNat 16 (0x1000 + 32 * dot.toNat + code.toNat) :=
  encode_setDigit_eq_ofNat .slot0 code dot

theorem encode_setDigit_slot1 (code : BitVec 5) (dot : BitVec 2) :
    encode (.setDigit .slot1 code dot) = BitVec.ofNat 16 (0x1100 + 32 * dot.toNat + code.toNat) :=
  encode_setDigit_eq_ofNat .slot1 code dot

namespace Machine

/-- The second check of 30_encoding R85, on a word whose opcode passed the first. -/
theorem decode_eq_reservedBits {p : Port} {w : Word} (hop : ¬ ReservedOpcode p (w.toNat / 4096))
    (hres : w &&& reservedBitsOf p (w.toNat / 4096) ≠ 0) : decode p w = .error .reservedBits := by
  obtain ⟨hillegal, -⟩ | ⟨-, i, hdecode⟩ := decode_cases p w
  · exact absurd hillegal hop
  · exact hdecode.trans (checkReserved_eq_error_iff.mpr ⟨hres, rfl⟩)

/-- A 1 in bits 11:9 or 7 of a word with SET_DIGIT's opcode is a reserved bit (30_encoding R76). -/
theorem decode_setDigit_reserved {u : Word} (hop : u.toNat / 4096 = 1)
    (hbits : u.extractLsb' 9 3 ≠ 0 ∨ u.getLsbD 7 = true) : decode .mux u = .error .reservedBits := by
  refine decode_eq_reservedBits (by rw [hop]; decide) ?_
  rw [hop]
  intro hzero
  obtain hhigh | hbit := hbits
  · exact hhigh (extractLsb'_eq_zero_of_reserved hzero rfl)
  · have hlow : u.extractLsb' 7 1 = 0 := extractLsb'_eq_zero_of_reserved hzero rfl
    have hbit0 : (u.extractLsb' 7 1).getLsbD 0 = u.getLsbD 7 := by simp
    rw [hlow, hbit] at hbit0
    nomatch hbit0

/-! ## What SET_DIGIT stores and refuses (40_mux R102) -/

/-- A legal code is stored as the number it is (30_encoding R78). -/
theorem digitCodeOf_of_le {code : BitVec 5} (h : code.toNat ≤ 16) :
    digitCodeOf code = some (Fin.ofNat 17 code.toNat) := by
  have hlt : code.toNat < 17 := Nat.lt_succ_of_le h
  rw [digitCodeOf, dif_pos hlt]
  exact congrArg some (Fin.ext (Nat.mod_eq_of_lt hlt).symm)

/-- A dot operand up to 2 is the code of a DotSlot (10_state R34). -/
theorem exists_dotCode_eq {dot : BitVec 2} (h : dot.toNat ≤ 2) : ∃ d, dotCode d = dot := by
  obtain rfl | rfl | rfl : dot = dotCode .off ∨ dot = dotCode .digit1 ∨ dot = dotCode .digit2 := by
    revert dot
    decide
  all_goals exact ⟨_, rfl⟩

/-- SET_DIGIT with a legal code and a named dot is the mux rule of its operands (40_mux R102). -/
theorem exec_setDigit_of_legal (slot : Slot) {code : BitVec 5} (hcode : code.toNat ≤ 16) (d : DotSlot) (s : State) :
    exec (.setDigit slot code (dotCode d)) s = .next (s.setDigit slot (Fin.ofNat 17 code.toNat) d) := by
  simp [exec, execSetDigit, digitCodeOf_of_le hcode]

/-- Settles O32. -/
theorem setDigitStoresOnePendingSlot : Obligations.SetDigitStoresOnePendingSlot := by
  refine ⟨fun code dot => ?_, fun u => decode_setDigit_reserved, fun code dot s hcode hdot => ?_,
    fun code dot s hrange => ?_⟩
  · rw [← encode_setDigit_slot0, ← encode_setDigit_slot1]
    exact ⟨decode_encode_setDigit .slot0 code dot, decode_encode_setDigit .slot1 code dot⟩
  · obtain ⟨d, rfl⟩ := exists_dotCode_eq hdot
    exact ⟨d, rfl, exec_setDigit_of_legal .slot0 hcode d s, exec_setDigit_of_legal .slot1 hcode d s⟩
  · have hrefused (slot : Slot) : exec (.setDigit slot code dot) s =
        .next (s.raise .operandRange (encode (.setDigit slot code dot))) :=
      exec_setDigit_of_not_wf (fun hwf => (wf_setDigit_iff slot code dot).mp hwf hrange) s
    rw [hrefused, hrefused, encode_setDigit_slot0, encode_setDigit_slot1]
    exact ⟨rfl, rfl⟩

/-! ## UPDATE (40_mux R103, R104) -/

theorem exec_update (s : State) : exec .update s = .next s.updateMux := rfl

/-- The slot an UPDATE renders, by the parameter and the alternator (40_mux R103). -/
theorem State.nextSlot_eq_match (s : State) :
    s.nextSlot = (match s.params.updateToggleFirst, s.alt with
      | true, .slot0 => .slot1
      | true, .slot1 => .slot0
      | false, a => a) := by
  unfold State.nextSlot
  cases s.params.updateToggleFirst <;> cases s.alt <;> rfl

/-- Settles O33. -/
theorem updateRendersOneSlot : Obligations.UpdateRendersOneSlot := by
  refine ⟨rfl, fun s slot hslot => ?_⟩
  have hnext : s.nextSlot = slot := s.nextSlot_eq_match.trans hslot.symm
  rw [exec_update, State.updateMux_eq, hnext]
  cases slot <;> rfl

/-- Settles O34. -/
theorem updatePhasesKeepTheirOrder : Obligations.UpdatePhasesKeepTheirOrder := by
  intro s slot
  have hphase1 : s.driveLow.an = 0 ∧ s.driveLow.dp = false ∧ s.driveLow.seg = s.seg :=
    ⟨s.driveLow_an, s.driveLow_dp, s.driveLow_seg⟩
  have hphase2 : (s.driveLow.driveSegments slot).an = 0 ∧ (s.driveLow.driveSegments slot).dp = false :=
    ⟨(s.driveLow.driveSegments_an slot).trans s.driveLow_an, (s.driveLow.driveSegments_dp slot).trans s.driveLow_dp⟩
  exact ⟨hphase1, hphase2, (s.driveLow.driveSegments slot).driveSlot_seg slot, rfl⟩

/-! ## OFF and BUS_ENABLE (40_mux R105, R106) -/

/-- Settles O35. -/
theorem offForcesEveryOutputLow : Obligations.OffForcesEveryOutputLow :=
  ⟨rfl, fun s => exec_instrOf s .off⟩

/-- Settles O36. -/
theorem busEnableRaisesOneLine : Obligations.BusEnableRaisesOneLine :=
  ⟨rfl, fun s => exec_instrOf s .busEnable⟩

/-! ## UPDATEs in a row (40_mux R108, R109) -/

/-- A run of an instruction starts with its effect on the first state. -/
theorem execTimes_succ {i : Instr} {s t : State} (h : exec i s = .next t) (n : Nat) :
    execTimes i (n + 1) s = execTimes i n t := by
  rw [execTimes, h]

/-- Each UPDATE leaves the other slot to be rendered next, under either value of the parameter (40_mux R109). -/
theorem State.updateMux_nextSlot (s : State) : s.updateMux.nextSlot = otherSlot s.nextSlot := by
  rw [State.updateMux_eq]
  unfold State.nextSlot
  split <;> rfl

/-- UPDATE shows the pending content of the slot chosen before it (40_mux R108). -/
theorem State.updateMux_shows_nextSlot (s : State) : s.updateMux.Shows s.nextSlot :=
  s.updateMux_shownSlot ▸ s.updateMux_shows

/-- What two neighbouring numbers choose by parity. -/
theorem ite_succ_even {α : Type} (n : Nat) (a b : α) :
    (if (n + 1) % 2 = 0 then a else b) = if n % 2 = 0 then b else a := by
  by_cases heven : n % 2 = 0
  · rw [if_pos heven, if_neg (by omega)]
  · rw [if_neg heven, if_pos (by omega)]

/-- Settles O37, by induction on the number of UPDATEs: the first of them leaves the slots in the opposite order to
the UPDATEs that follow. -/
theorem repeatedUpdatesAlternateSlots : Obligations.RepeatedUpdatesAlternateSlots := by
  intro n
  induction n with
  | zero =>
    intro s
    exact ⟨s.updateMux, rfl, s.updateMux_shows_nextSlot, congrArg State.alt s.updateMux_eq,
      by rw [State.updateMux_eq]⟩
  | succ n ih =>
    intro s
    obtain ⟨t, hrun, hshows, halt, hframe⟩ := ih s.updateMux
    have halt1 : s.updateMux.alt = otherSlot s.alt := congrArg State.alt s.updateMux_eq
    rw [State.updateMux_nextSlot, otherSlot_otherSlot] at hshows
    rw [halt1, otherSlot_otherSlot] at halt
    rw [State.updateMux_eq] at hframe
    refine ⟨t, (execTimes_succ (exec_update s) (n + 1)).trans hrun, ?_, ?_, hframe⟩
    · rwa [ite_succ_even]
    · rwa [ite_succ_even]

end Machine
end Sys2Proof
end

section
/-! PROOFS. TICK and the display-mode state machine (41_tick): the clock, the counter and its quarters, what each
quarter paints, and a display cycle from its request on. The lemmas of each part stand before the statements they
settle. -/

namespace Sys2Proof.Machine

/-! ## TICK as an instruction (41_tick R130) -/

theorem exec_tick (s : State) : exec .tick s = .next s.tick := rfl

/-- No TICK stops a run of TICKs. -/
theorem execTimes_tick (n : Nat) (s : State) : execTimes .tick n s = .next (State.tick^[n] s) := by
  induction n generalizing s with
  | zero => rfl
  | succ n ih => exact (execTimes_succ (exec_tick s) n).trans (ih s.tick)

theorem State.tick_displayCounter (s : State) : s.tick.displayCounter = s.counterToShow := by
  obtain ⟨-, -, -, -, -, -, -, -, hcounter, -⟩ := s.tick_engine
  exact hcounter

/-! ## The wall time (41_tick R132) -/

/-- A legal time is read back from the seconds since midnight. -/
theorem State.WallLegal.clock_eq {s : State} (hwall : s.WallLegal) :
    s.hours = BitVec.ofNat 5 (s.wallSeconds / 3600) ∧
      s.minutes = BitVec.ofNat 6 (s.wallSeconds / 60 % 60) ∧
      s.seconds = BitVec.ofNat 6 (s.wallSeconds % 60) := by
  obtain ⟨hh, hm, hs⟩ := hwall
  simp only [State.wallSeconds, ← BitVec.toNat_inj, BitVec.toNat_ofNat]
  omega

theorem State.WallLegal.wallSeconds_lt {s : State} (hwall : s.WallLegal) : s.wallSeconds < 86400 := by
  obtain ⟨hh, hm, hs⟩ := hwall
  unfold State.wallSeconds
  omega

/-- The cascading rollover adds one second, and starts a new day at its end (41_tick R132). -/
theorem State.WallLegal.wallSeconds_secondPassed {s : State} (hwall : s.WallLegal) :
    s.secondPassed.wallSeconds = (s.wallSeconds + 1) % 86400 := by
  obtain ⟨hh, hm, hs⟩ := hwall
  unfold State.secondPassed State.wallSeconds
  split
  · split
    · split <;> bv_omega
    · bv_omega
  · bv_omega

/-- Settles O38: the time after the second is legal, so it is the one its seconds since midnight tell. -/
theorem secondPassedIsTheNextSecond : Obligations.SecondPassedIsTheNextSecond := by
  intro s hwall
  obtain ⟨hhours, hminutes, hseconds⟩ := (State.secondPassed_wallLegal hwall).clock_eq
  rw [← hwall.wallSeconds_secondPassed, ← hhours, ← hminutes, ← hseconds]
  exact s.secondPassed_eq

/-! ## The tick counter (41_tick R131) -/

theorem State.countTick_of_boundary {s : State} (h : s.currentTick + 1 = s.params.secPeriod) :
    s.countTick = { s.secondPassed with currentTick := 0 } :=
  if_pos h

theorem State.countTick_of_not_boundary {s : State} (h : s.currentTick + 1 ≠ s.params.secPeriod) :
    s.countTick = { s with currentTick := s.currentTick + 1 } :=
  if_neg h

/-- TICK moves the clock as its first step does; no later step writes it. -/
theorem State.tick_clock (s : State) :
    s.tick.hours = s.countTick.hours ∧ s.tick.minutes = s.countTick.minutes ∧
      s.tick.seconds = s.countTick.seconds ∧ s.tick.currentTick = s.countTick.currentTick := by
  obtain ⟨-, hhours, hminutes, hseconds, hphase, -⟩ := s.tick_engine
  exact ⟨hhours, hminutes, hseconds, hphase.trans (congrArg State.currentTick s.countTick_eq).symm⟩

/-- One TICK is the quotient and the remainder of one count by `SEC_PERIOD`. -/
theorem State.tick_phase {s : State} (hwall : s.WallLegal) (hphase : s.currentTick < s.params.secPeriod) :
    s.tick.currentTick = (s.currentTick + 1) % s.params.secPeriod ∧
      s.tick.wallSeconds = (s.wallSeconds + (s.currentTick + 1) / s.params.secPeriod) % 86400 := by
  obtain ⟨hhours, hminutes, hseconds, htick⟩ := s.tick_clock
  simp only [State.wallSeconds, hhours, hminutes, hseconds, htick]
  by_cases hboundary : s.currentTick + 1 = s.params.secPeriod
  · rw [State.countTick_of_boundary hboundary, hboundary, Nat.mod_self, Nat.div_self (by omega)]
    exact ⟨rfl, hwall.wallSeconds_secondPassed⟩
  · have hlt : s.currentTick + 1 < s.params.secPeriod := by omega
    rw [State.countTick_of_not_boundary hboundary, Nat.mod_eq_of_lt hlt, Nat.div_eq_of_lt hlt]
    exact ⟨rfl, (Nat.mod_eq_of_lt hwall.wallSeconds_lt).symm⟩

/-- Counting one further carries into the quotient exactly when the remainder reaches the divisor. -/
theorem succ_div_eq_add_mod_succ_div (a : Nat) {p : Nat} (hp : 0 < p) :
    (a + 1) / p = a / p + (a % p + 1) / p := by
  conv_lhs => rw [← Nat.div_add_mod a p, Nat.add_assoc, Nat.mul_add_div hp]

/-- `n` TICKs pass a second for every `SEC_PERIOD`-th of them. -/
theorem State.tick_iterate_phase {s : State} (hwall : s.WallLegal)
    (hphase : s.currentTick < s.params.secPeriod) (n : Nat) :
    (State.tick^[n] s).params = s.params ∧
      (State.tick^[n] s).currentTick = (s.currentTick + n) % s.params.secPeriod ∧
      (State.tick^[n] s).wallSeconds =
        (s.wallSeconds + (s.currentTick + n) / s.params.secPeriod) % 86400 ∧
      (State.tick^[n] s).WallLegal := by
  have hperiod : 0 < s.params.secPeriod := Nat.zero_lt_of_lt hphase
  induction n with
  | zero =>
    have hday := hwall.wallSeconds_lt
    simpa [Nat.mod_eq_of_lt, Nat.div_eq_of_lt, hphase, hday] using hwall
  | succ n ih =>
    rw [Function.iterate_succ_apply']
    generalize State.tick^[n] s = t at ih ⊢
    obtain ⟨hparams, htick, hseconds, hlegal⟩ := ih
    have hbelow : t.currentTick < t.params.secPeriod := by
      rw [htick, hparams]
      exact Nat.mod_lt _ hperiod
    obtain ⟨htick', hseconds'⟩ := State.tick_phase hlegal hbelow
    refine ⟨t.tick_params.trans hparams, ?_, ?_, State.tick_wallLegal hlegal⟩
    · rw [htick', htick, hparams, Nat.mod_add_mod, Nat.add_assoc]
    · rw [hseconds', htick, hseconds, hparams, Nat.mod_add_mod, ← Nat.add_assoc s.currentTick,
        succ_div_eq_add_mod_succ_div (s.currentTick + n) hperiod, Nat.add_assoc s.wallSeconds]

/-- Settles O39. -/
theorem secondBoundaryEverySecPeriodTicks : Obligations.SecondBoundaryEverySecPeriodTicks := by
  constructor
  · intro s
    obtain ⟨hhours, hminutes, hseconds, htick⟩ := s.tick_clock
    refine ⟨s.tick, exec_tick s, fun hboundary => ?_, fun hboundary => ?_⟩
    · rw [State.countTick_of_boundary hboundary] at hhours hminutes hseconds htick
      exact ⟨htick, hhours, hminutes, hseconds⟩
    · rw [State.countTick_of_not_boundary hboundary] at hhours hminutes hseconds htick
      exact ⟨htick, hhours, hminutes, hseconds⟩
  · intro n s hwall hphase
    obtain ⟨-, hrun⟩ := State.tick_iterate_phase hwall hphase n
    exact ⟨_, execTimes_tick n s, hrun⟩

/-! ## The counter and its quarters (41_tick R134, R135, R138) -/

theorem quarterOf_eq_hours_iff {tps c : Nat} : quarterOf tps c = .hours ↔ 0 < c ∧ c ≤ tps := by
  unfold quarterOf
  split_ifs <;> simp <;> omega

theorem quarterOf_eq_minutes_iff {tps c : Nat} : quarterOf tps c = .minutes ↔ tps < c ∧ c ≤ 2 * tps := by
  unfold quarterOf
  split_ifs <;> simp <;> omega

theorem quarterOf_eq_charge_iff {tps c : Nat} : quarterOf tps c = .charge ↔ 2 * tps < c ∧ c ≤ 3 * tps := by
  unfold quarterOf
  split_ifs <;> simp <;> omega

/-- A counter that has not started is dispatched with quarter 4, as every other one outside quarters 1 to 3. -/
theorem quarterOf_eq_off {tps c : Nat} (h : c = 0 ∨ 3 * tps < c) : quarterOf tps c = .off := by
  rw [quarterOf, if_neg (by omega), if_neg (by omega), if_neg (by omega)]

/-- Only quarter 4 changes the mode (41_tick R142). -/
theorem modeAfter_of_ne_off {q : Quarter} (hq : q ≠ .off) (mode : DisplayMode) : modeAfter q mode = mode := by
  cases q with
  | hours | minutes | charge => rfl
  | off => exact absurd rfl hq

/-- The mode a TICK leaves (41_tick R134, R142). -/
theorem State.tick_displayStatus (s : State) :
    s.tick.displayStatus = modeAfter (quarterOf s.params.tps s.counterToShow) s.modeToShow := by
  obtain ⟨-, -, -, -, -, hmode, -⟩ := s.tick_engine
  exact hmode

/-- In quarters 1 to 3 the mode shown is the one dispatched on. -/
theorem State.tick_displayStatus_of_lit {s : State} (hpos : 0 < s.counterToShow)
    (hlit : s.counterToShow ≤ 3 * s.params.tps) : s.tick.displayStatus = s.modeToShow := by
  rw [State.tick_displayStatus, modeAfter_of_ne_off]
  rw [Ne, quarterOf_eq_off_iff hpos]
  exact hlit.not_gt

/-- Settles O40. -/
theorem tickLatchesAndCounts : Obligations.TickLatchesAndCounts := by
  intro s c hc
  obtain ⟨hparams, -, -, -, -, -, hrequest, hdisplaying, hcounter, hcharge, hfault, hevents, hresponse⟩ :=
    s.tick_engine
  refine ⟨s.tick, exec_tick s, hrequest, fun hlt => ?_, fun hge => ?_, fun hpos hlit => ?_, hparams, hcharge,
    hfault, hevents, hresponse⟩
  · rw [hcounter, hdisplaying, State.counterToShow, ← hc, if_pos hlt]
    exact ⟨rfl, decide_eq_true hlt⟩
  · rw [hcounter, hdisplaying, State.counterToShow, ← hc, if_neg hge.not_gt]
    exact ⟨rfl, decide_eq_false hge.not_gt⟩
  · rw [hcounter] at hpos hlit
    exact State.tick_displayStatus_of_lit hpos hlit

/-! ## The gauge value (41_tick R137) -/

theorem gaugeOf_val (v : BitVec 8) : (gaugeOf v).val = min 16 (10 + v.toNat / 16) := rfl

/-- The gauge starts at its empty code (41_tick R137). -/
theorem ten_le_gaugeOf (v : BitVec 8) : 10 ≤ (gaugeOf v).val := by
  rw [gaugeOf_val]
  omega

/-- The gauge value is told by its number. -/
theorem gaugeOf_eq_iff {v : BitVec 8} {c : DigitCode} : gaugeOf v = c ↔ min 16 (10 + v.toNat / 16) = c.val :=
  Fin.ext_iff

/-- Settles O41. -/
theorem gaugeValueIsClamped : Obligations.GaugeValueIsClamped := by
  refine ⟨fun v => ⟨gaugeOf_val v, ten_le_gaugeOf v, fun hempty => ?_, fun hfive hlt => ?_, fun hfull => ?_⟩,
    fun v w hle => ?_⟩
  · exact gaugeOf_eq_iff.mpr (by show _ = 10; omega)
  · exact gaugeOf_eq_iff.mpr (by show _ = 15; omega)
  · exact gaugeOf_eq_iff.mpr (by show _ = 16; omega)
  · rw [Fin.le_def, gaugeOf_val, gaugeOf_val]
    exact min_le_min_left 16 (Nat.add_le_add_left (Nat.div_le_div_right hle) 10)

/-! ## What quarters 1 and 2 paint (41_tick R139, R140, R143) -/

/-- The micro-operations that write both slots with one dot and render the next slot (41_tick R139 to R141). -/
abbrev paintOps (c0 c1 : DigitCode) (d : DotSlot) : List MicroOp :=
  [.busEnable, .setDigit .slot0 c0 d, .setDigit .slot1 c1 d, .update]

/-- The micro-operations that only render the next slot (41_tick R143). -/
abbrev rerenderOps : List MicroOp := [.busEnable, .update]

/-- From `s` to `t` the bus is enabled and the next slot rendered, after the digits of `value` (modes Time and Both)
or blanks (EmptyBattery) were written to both slots with dot `d`, or nothing was (Idle and Charge). -/
abbrev State.Paints (s t : State) (mode : DisplayMode) (value : Nat) (d : DotSlot) : Prop :=
  t.busEn = true ∧ t.alt = otherSlot s.alt ∧ t.Shows s.nextSlot ∧
    (mode = .time ∨ mode = .both → t.pendCode0.val = value / 10 ∧ t.pendCode1.val = value % 10) ∧
    (mode = .emptyBattery → t.pendCode0 = 10 ∧ t.pendCode1 = 10) ∧
    (mode = .time ∨ mode = .both ∨ mode = .emptyBattery →
      t.pendDot0 = d ∧ t.pendDot1 = d ∧
      t.emitted = s.emitted ++ paintOps t.pendCode0 t.pendCode1 d) ∧
    (mode = .idle ∨ mode = .charge →
      t.pendCode0 = s.pendCode0 ∧ t.pendCode1 = s.pendCode1 ∧ t.pendDot0 = s.pendDot0 ∧
      t.pendDot1 = s.pendDot1 ∧ t.emitted = s.emitted ++ rerenderOps)

/-- Writing both slots and rendering shows the next slot's new code and dot. -/
theorem State.emitAll_paint_shows (s : State) (c0 c1 : DigitCode) (d : DotSlot) :
    (s.emitAll (paintOps c0 c1 d)).Shows s.nextSlot := by
  rw [State.emitAll_paint]
  cases s.nextSlot with
  | slot0 | slot1 => exact ⟨rfl, rfl, beq_iff_eq⟩

/-- Rendering alone shows the next slot's old code and dot (41_tick R143). -/
theorem State.emitAll_rerender_shows (s : State) : (s.emitAll rerenderOps).Shows s.nextSlot := by
  rw [State.emitAll_rerender]
  cases s.nextSlot with
  | slot0 | slot1 => exact ⟨rfl, rfl, beq_iff_eq⟩

/-- The micro-operations of quarters 1 and 2 do what the two rules say, in every mode. -/
theorem State.emitAll_digitOps_paints (s : State) (mode : DisplayMode) (value : BitVec 6) (d : DotSlot) :
    s.Paints (s.emitAll (digitOps mode value d)) mode value.toNat d := by
  cases mode with
  | time | both =>
    have hshows := s.emitAll_paint_shows (tensOf value) (unitsOf value) d
    rw [State.emitAll_paint] at hshows
    rw [digitOps, State.emitAll_paint]
    exact ⟨rfl, rfl, hshows, fun _ => ⟨rfl, rfl⟩, nofun, fun _ => ⟨rfl, rfl, rfl⟩, nofun⟩
  | emptyBattery =>
    have hshows := s.emitAll_paint_shows blankCode blankCode d
    rw [State.emitAll_paint] at hshows
    rw [digitOps, State.emitAll_paint]
    exact ⟨rfl, rfl, hshows, nofun, fun _ => ⟨rfl, rfl⟩, fun _ => ⟨rfl, rfl, rfl⟩, nofun⟩
  | idle | charge =>
    have hshows := s.emitAll_rerender_shows
    rw [State.emitAll_rerender] at hshows
    rw [digitOps, State.emitAll_rerender]
    exact ⟨rfl, rfl, hshows, nofun, nofun, nofun, fun _ => ⟨rfl, rfl, rfl, rfl, rfl⟩⟩

/-- TICK in a given quarter: the quarter's micro-operations and mode, on the state the first three steps leave. -/
theorem State.tick_of_quarter {s : State} {q : Quarter} (hq : quarterOf s.params.tps s.counterToShow = q) :
    s.tick = { s.afterThree.emitAll
      (quarterOps q s.modeToShow s.countTick.hours s.countTick.minutes (gaugeOf s.chargeLevel)) with
        displayStatus := modeAfter q s.modeToShow } := by
  subst hq
  exact s.tick_eq

/-- Quarter 1 paints the hours this TICK leaves (41_tick R130, R139). -/
theorem State.tick_paints_hours {s : State} (hpos : 0 < s.counterToShow) (hle : s.counterToShow ≤ s.params.tps) :
    s.Paints s.tick s.modeToShow s.tick.hours.toNat .digit1 := by
  obtain ⟨hhours, -⟩ := s.tick_clock
  have hvalue : (s.countTick.hours.setWidth 6).toNat = s.tick.hours.toNat := by
    rw [hhours]
    exact BitVec.toNat_setWidth_of_le (by decide)
  have hpaints := s.afterThree.emitAll_digitOps_paints s.modeToShow (s.countTick.hours.setWidth 6) .digit1
  rw [hvalue] at hpaints
  rw [State.tick_of_quarter (quarterOf_eq_hours_iff.mpr ⟨hpos, hle⟩)] at hpaints ⊢
  exact hpaints

/-- Quarter 2 paints the minutes this TICK leaves (41_tick R130, R140). -/
theorem State.tick_paints_minutes {s : State} (hpos : s.params.tps < s.counterToShow)
    (hle : s.counterToShow ≤ 2 * s.params.tps) :
    s.Paints s.tick s.modeToShow s.tick.minutes.toNat .digit2 := by
  have hpaints := s.afterThree.emitAll_digitOps_paints s.modeToShow s.countTick.minutes .digit2
  obtain ⟨-, hminutes, -⟩ := s.tick_clock
  rw [hminutes, State.tick_of_quarter (quarterOf_eq_minutes_iff.mpr ⟨hpos, hle⟩)]
  exact hpaints

/-- Settles O42. -/
theorem quarter1PaintsHours : Obligations.Quarter1PaintsHours := by
  intro s
  refine ⟨s.tick, exec_tick s, fun hpos hle => ?_⟩
  rw [State.tick_displayCounter] at hpos hle
  exact ⟨State.tick_displayStatus_of_lit hpos (by omega), State.tick_paints_hours hpos hle⟩

/-- Settles O43. -/
theorem quarter2PaintsMinutes : Obligations.Quarter2PaintsMinutes := by
  intro s
  refine ⟨s.tick, exec_tick s, fun hpos hle => ?_⟩
  rw [State.tick_displayCounter] at hpos hle
  exact ⟨State.tick_displayStatus_of_lit (by omega) (by omega), State.tick_paints_minutes hpos hle⟩

/-! ## Quarters 3 and 4 (41_tick R141, R142, R144) -/

/-- In mode Both quarter 3 shows the gauge on both slots, without a dot (41_tick R141). -/
theorem State.tick_paints_gauge {s : State} (hmode : s.modeToShow = .both)
    (hpos : 2 * s.params.tps < s.counterToShow) (hle : s.counterToShow ≤ 3 * s.params.tps) :
    s.tick.pendCode0 = gaugeOf s.chargeLevel ∧ s.tick.pendCode1 = gaugeOf s.chargeLevel ∧
      s.tick.pendDot0 = .off ∧ s.tick.pendDot1 = .off ∧ s.tick.busEn = true ∧
      s.tick.alt = otherSlot s.alt ∧ s.tick.Shows s.nextSlot ∧
      s.tick.emitted = s.emitted ++ paintOps (gaugeOf s.chargeLevel) (gaugeOf s.chargeLevel) .off := by
  have hshows := s.afterThree.emitAll_paint_shows (gaugeOf s.chargeLevel) (gaugeOf s.chargeLevel) .off
  rw [State.emitAll_paint] at hshows
  rw [State.tick_of_quarter (quarterOf_eq_charge_iff.mpr ⟨hpos, hle⟩), hmode, quarterOps, gaugeOps,
    State.emitAll_paint]
  exact ⟨rfl, rfl, rfl, rfl, rfl, rfl, hshows, rfl⟩

/-- In every other mode quarter 3 emits nothing, and the lines keep what quarter 2 drove (41_tick R144). -/
theorem State.tick_sameMux {s : State} (hmode : s.modeToShow ≠ .both)
    (hpos : 2 * s.params.tps < s.counterToShow) (hle : s.counterToShow ≤ 3 * s.params.tps) :
    s.SameMux s.tick ∧ s.tick.emitted = s.emitted := by
  rw [State.tick_of_quarter (quarterOf_eq_charge_iff.mpr ⟨hpos, hle⟩)]
  have hnothing (cv : DigitCode) : gaugeOps s.modeToShow cv = [] := by
    cases h : s.modeToShow with
    | both => exact absurd h hmode
    | idle | time | charge | emptyBattery => rfl
  rw [quarterOps, hnothing]
  exact ⟨⟨rfl, rfl, rfl, rfl, rfl, rfl, rfl, rfl, rfl⟩, rfl⟩

/-- Settles O44. -/
theorem quarter3PaintsGauge : Obligations.Quarter3PaintsGauge := by
  intro s
  refine ⟨s.tick, exec_tick s, fun hpos hle => ?_⟩
  rw [State.tick_displayCounter] at hpos hle
  refine ⟨State.tick_displayStatus_of_lit (by omega) hle, fun hmode => ?_, fun hmode =>
    State.tick_sameMux hmode hpos hle⟩
  obtain ⟨hcode0, hcode1, hdot0, hdot1, hbus, halt, hshows, hemitted⟩ := State.tick_paints_gauge hmode hpos hle
  rw [hcode0, hcode1]
  exact ⟨gaugeOf_val _, rfl, hdot0, hdot1, hbus, halt, hshows, hemitted⟩

/-- Quarter 4 turns every line off and leaves the pending slots and the alternator (41_tick R142). -/
theorem State.tick_turns_off {s : State} (hoff : quarterOf s.params.tps s.counterToShow = .off) :
    s.tick = { s.afterThree with
      displayStatus := .idle, seg := 0, an := 0, dp := false, busEn := false, emitted := s.emitted ++ [.off] } :=
  State.tick_of_quarter hoff

/-- Settles O45: a counter below the bound, and a new request, is counted in step 3 before quarter 4 is dispatched
(the reading D13, notes/assumptions/18.md). -/
theorem quarter4TurnsTheDisplayOff : Obligations.Quarter4TurnsTheDisplayOff := by
  intro s
  refine ⟨s.tick, exec_tick s, fun hbeyond => ?_⟩
  rw [State.tick_displayCounter] at hbeyond
  have hoff := (quarterOf_eq_off_iff (Nat.one_le_of_lt hbeyond)).mpr hbeyond
  rw [State.tick_turns_off hoff]
  refine ⟨rfl, ⟨rfl, rfl, rfl, rfl⟩, rfl, rfl, rfl, rfl, rfl, rfl, fun hlt => decide_eq_true ?_⟩
  split <;> omega

/-! ## What a TICK's trace depends on (41_tick R143, R145, R146) -/

/-- Settles O46: the trace is one function of what the two TICKs agree on. -/
theorem sliceSelectionIsPure : Obligations.SliceSelectionIsPure := by
  intro s₁ s₂ t₁ t₂ hexec₁ hexec₂ htps hcounter hmode hhours hminutes hcharge hclear₁ hclear₂
  obtain rfl : s₁.tick = t₁ := Host.Outcome.next.inj hexec₁
  obtain rfl : s₂.tick = t₂ := Host.Outcome.next.inj hexec₂
  rw [State.tick_displayCounter, State.tick_displayCounter] at hcounter
  obtain ⟨hhours₁, hminutes₁, -⟩ := s₁.tick_clock
  obtain ⟨hhours₂, hminutes₂, -⟩ := s₂.tick_clock
  rw [State.tick_emitted, State.tick_emitted, ← hhours₁, ← hminutes₁, ← hhours₂, ← hminutes₂, htps, hcounter,
    hmode, hhours, hminutes, hcharge, hclear₁, hclear₂]

/-- No micro-operation of mode Charge is a SET_DIGIT, in any quarter (41_tick R143). -/
theorem State.tick_pending_of_charge {s : State} (hmode : s.modeToShow = .charge) :
    s.tick.pendCode0 = s.pendCode0 ∧ s.tick.pendCode1 = s.pendCode1 ∧ s.tick.pendDot0 = s.pendDot0 ∧
      s.tick.pendDot1 = s.pendDot1 := by
  cases hq : quarterOf s.params.tps s.counterToShow with
  | hours | minutes =>
    rw [State.tick_of_quarter hq, hmode, quarterOps, digitOps, State.emitAll_rerender]
    exact ⟨rfl, rfl, rfl, rfl⟩
  | charge | off =>
    rw [State.tick_of_quarter hq, hmode]
    exact ⟨rfl, rfl, rfl, rfl⟩

/-- In every mode quarters 1 and 2 light the next slot (41_tick R139, R140). -/
theorem State.tick_shows_nextSlot {s : State} (hpos : 0 < s.counterToShow)
    (hle : s.counterToShow ≤ 2 * s.params.tps) : s.tick.busEn = true ∧ s.tick.Shows s.nextSlot := by
  by_cases hquarter1 : s.counterToShow ≤ s.params.tps
  · obtain ⟨hbus, -, hshows, -⟩ := State.tick_paints_hours hpos hquarter1
    exact ⟨hbus, hshows⟩
  · obtain ⟨hbus, -, hshows, -⟩ := State.tick_paints_minutes (not_le.mp hquarter1) hle
    exact ⟨hbus, hshows⟩

/-- Settles O47: the slot that this TICK renders still holds the code pending before it. -/
theorem chargeModeShowsStaleContent : Obligations.ChargeModeShowsStaleContent := by
  intro s hmode
  obtain ⟨hcode0, hcode1, hdot0, hdot1⟩ := State.tick_pending_of_charge hmode
  refine ⟨s.tick, exec_tick s, hcode0, hcode1, hdot0, hdot1, fun hpos hle => ?_⟩
  rw [State.tick_displayCounter] at hpos hle
  obtain ⟨hbus, hseg, han, -⟩ := State.tick_shows_nextSlot hpos hle
  have hcode : s.tick.pendCode s.nextSlot = s.pendCode s.nextSlot := by
    cases s.nextSlot with
    | slot0 => exact hcode0
    | slot1 => exact hcode1
  rw [hcode, s.tick_params] at hseg
  exact ⟨hbus, hseg, han⟩

/-- Settles O49: a legal time stays legal in the TICK that shows it. -/
theorem shownDigitsAreInRange : Obligations.ShownDigitsAreInRange := by
  intro s hwall hmode
  obtain ⟨hhours, hminutes, -⟩ := State.tick_wallLegal hwall
  refine ⟨s.tick, exec_tick s, fun hpos hle => ?_, fun hpos hle => ?_, fun hboth hpos hle => ?_⟩
  all_goals rw [State.tick_displayCounter] at hpos hle
  · obtain ⟨-, -, -, hdigits, -⟩ := State.tick_paints_hours hpos hle
    have := hdigits hmode
    omega
  · obtain ⟨-, -, -, hdigits, -⟩ := State.tick_paints_minutes hpos hle
    have := hdigits hmode
    omega
  · obtain ⟨hcode0, hcode1, -⟩ := State.tick_paints_gauge hboth hpos hle
    rw [hcode0, hcode1]
    exact ⟨ten_le_gaugeOf _, ten_le_gaugeOf _⟩

/-! ## A display cycle from its request on (41_tick R134 to R142) -/

/-- The block after the `n`-th TICK of a display cycle that shows `mode`, `n` from 1 on, with quarters of `tps` TICKs:
lit up to the end of quarter 3, dark after it, and counting up to the end of quarter 4. -/
structure State.InCycle (tps : Nat) (mode : DisplayMode) (n : Nat) (s : State) : Prop where
  quarterLength : s.params.tps = tps
  /-- The request was latched (R134). -/
  latched : s.displayNewStatus = .idle
  /-- The counter stops at the end of the cycle (R135). -/
  counter : s.displayCounter = min n (4 * tps)
  /-- "displaying" falls on the TICK that finds the counter stopped (R135; notes/assumptions/18.md). -/
  displaying : s.displaying = decide (n ≤ 4 * tps)
  /-- Quarters 1 to 3 (R139 to R141, R144). -/
  lit : n ≤ 3 * tps → s.displayStatus = mode ∧ s.Lit
  /-- Quarter 4 (R142). -/
  dark : 3 * tps < n → s.displayStatus = .idle ∧ s.Dark

/-- A TICK outside quarter 4 leaves the display lit, if quarter 3 finds it so. -/
theorem State.tick_lit {s : State} (hq : quarterOf s.params.tps s.counterToShow ≠ .off)
    (hlit : quarterOf s.params.tps s.counterToShow = .charge → s.Lit) : s.tick.Lit := by
  rw [State.tick_eq, State.dispatchSlice_eq]
  exact State.quarterOps_lit (s := s.afterThree) hq hlit _ _ _ _

/-- The TICK whose step 3 finds the counter at `min n (4*TPS)` is the cycle's TICK `n + 1`. -/
theorem State.tick_inCycle {s : State} {mode : DisplayMode} {n : Nat}
    (hcounter : (if s.displayNewStatus = .idle then s.displayCounter else 0) = min n (4 * s.params.tps))
    (hmode : n + 1 ≤ 3 * s.params.tps → s.modeToShow = mode)
    (hlit : 2 * s.params.tps < n + 1 → n + 1 ≤ 3 * s.params.tps → s.Lit) :
    State.InCycle s.params.tps mode (n + 1) s.tick := by
  obtain ⟨-, -, -, -, -, -, hlatched, hdisplaying, -⟩ := s.tick_engine
  have hshow : s.counterToShow = min (n + 1) (4 * s.params.tps) := by
    simp only [State.counterToShow, hcounter]
    split <;> omega
  exact {
    quarterLength := congrArg Params.tps s.tick_params
    latched := hlatched
    counter := s.tick_displayCounter.trans hshow
    displaying := by
      rw [hdisplaying, hcounter, decide_eq_decide]
      omega
    lit := fun hle => by
      have hq : quarterOf s.params.tps s.counterToShow ≠ .off := by
        rw [Ne, quarterOf_eq_off_iff (by omega)]
        omega
      refine ⟨(State.tick_displayStatus_of_lit (by omega) (by omega)).trans (hmode hle), State.tick_lit hq ?_⟩
      rw [quarterOf_eq_charge_iff]
      exact fun hrange => hlit (by omega) hle
    dark := fun hgt => by
      have hoff : quarterOf s.params.tps s.counterToShow = .off := quarterOf_eq_off (by omega)
      exact ⟨by rw [State.tick_displayStatus, hoff, modeAfter], State.tick_dark hoff⟩ }

/-- The TICK that latches a request is the first of its cycle (41_tick R134). -/
theorem State.inCycle_one_of_request {s : State} (hrequest : s.displayNewStatus ≠ .idle) :
    State.InCycle s.params.tps s.displayNewStatus 1 s.tick :=
  State.tick_inCycle (n := 0) (by rw [if_neg hrequest, Nat.zero_min]) (fun _ => if_neg hrequest)
    (fun hgt hle => absurd hle (by omega))

/-- With no new request a TICK is the next one of the cycle, or keeps the end of it. -/
theorem State.InCycle.tick {tps : Nat} {mode : DisplayMode} {n : Nat} {s : State}
    (h : s.InCycle tps mode n) : s.tick.InCycle tps mode (n + 1) := by
  obtain ⟨rfl, hlatched, hcounter, -, hlit, -⟩ := h
  refine State.tick_inCycle ((if_pos hlatched).trans hcounter) (fun hle => ?_) (fun _ hle => ?_)
  · exact (if_pos hlatched).trans (hlit (by omega)).1
  · exact (hlit (by omega)).2

/-- Every TICK after the request is in its place of the cycle. -/
theorem State.tick_iterate_inCycle {s : State} (hrequest : s.displayNewStatus ≠ .idle) {n : Nat} (hn : 1 ≤ n) :
    State.InCycle s.params.tps s.displayNewStatus n (State.tick^[n] s) := by
  induction n, hn using Nat.le_induction with
  | base => exact State.inCycle_one_of_request hrequest
  | succ n _ ih =>
    rw [Function.iterate_succ_apply']
    exact ih.tick

/-- Settles O51. -/
theorem displayCycleRunsItsFourQuarters : Obligations.DisplayCycleRunsItsFourQuarters := by
  intro n s hrequest hn
  obtain ⟨-, -, hcounter, hdisplaying, hlit, hdark⟩ := State.tick_iterate_inCycle hrequest hn
  refine ⟨State.tick^[n] s, execTimes_tick n s, fun hle => ?_, fun hgt => ?_, fun hle => ?_, hdark⟩
  · exact ⟨hcounter.trans (Nat.min_eq_left hle), hdisplaying.trans (decide_eq_true hle)⟩
  · exact ⟨hcounter.trans (Nat.min_eq_right hgt.le), hdisplaying.trans (decide_eq_false hgt.not_ge)⟩
  · obtain ⟨hmode, hbus, -⟩ := hlit hle
    exact ⟨hmode, hbus⟩

end Sys2Proof.Machine
end

section
/-! PROOFS. Requests and accessors (42_requests): the words of the commands, what the display requests stage, and what
the accessors store and respond. The lemmas of each part stand before the statements they settle. -/

namespace Sys2Proof

/-! ## The words of the commands (30_encoding R71, R75, R79, R80) -/

/-- SET_TIME's word as its fields add up (30_encoding R71). -/
theorem encode_setTime_eq_ofNat (hh : BitVec 5) (mm : BitVec 6) :
    encode (.setTime hh mm) = BitVec.ofNat 16 (0x6000 + 64 * hh.toNat + mm.toNat) := by
  rw [← toNat_encode_setTime, BitVec.ofNat_toNat, BitVec.setWidth_eq]

/-- SET_CHARGE_LEVEL's word as its fields add up (30_encoding R71). -/
theorem encode_setChargeLevel_eq_ofNat (v : BitVec 8) :
    encode (.setChargeLevel v) = BitVec.ofNat 16 (0x8000 + v.toNat) := by
  rw [← toNat_encode_setChargeLevel, BitVec.ofNat_toNat, BitVec.setWidth_eq]

/-- A bit as a field of its own. -/
theorem extractLsb'_one_ne_zero {w : Word} {k : Nat} (h : w.getLsbD k = true) : w.extractLsb' k 1 ≠ 0 := by
  intro hzero
  have hbit : (w.extractLsb' k 1).getLsbD 0 = w.getLsbD k := by simp
  rw [hzero, h] at hbit
  nomatch hbit

namespace Machine

/-- GET_TIME's word as its fields add up (30_encoding R79). -/
theorem timeWord_eq_ofNat (hours : BitVec 5) (minutes : BitVec 6) :
    timeWord hours minutes = BitVec.ofNat 16 (64 * hours.toNat + minutes.toNat) := by
  rw [← toNat_timeWord, BitVec.ofNat_toNat, BitVec.setWidth_eq]

/-- IS_DISPLAY_ON's word is the flag's own value (30_encoding R80). -/
theorem flagWord_eq_ite (b : Bool) : flagWord b = if b then 0x0001 else 0x0000 := by
  cases b <;> rfl

/-- A word of a legal opcode with a 1 in a field of reserved bits is refused (30_encoding R75, R76, R85). -/
theorem decode_of_reserved_field {p : Port} {w : Word} {op start len : Nat} (hop : w.toNat / 4096 = op)
    (hlegal : ¬ ReservedOpcode p op) (hones : (reservedBitsOf p op).extractLsb' start len = BitVec.allOnes len)
    (hbits : w.extractLsb' start len ≠ 0) : decode p w = .error .reservedBits := by
  subst hop
  exact decode_eq_reservedBits hlegal fun hzero => hbits (extractLsb'_eq_zero_of_reserved hzero hones)

/-- A command without operands has all of bits 11:0 reserved (30_encoding R75). -/
theorem refusesLowBits_of_reserved {op : Nat} (hlegal : ¬ ReservedOpcode .command op)
    (hreserved : reservedBitsOf .command op = 0x0FFF) : RefusesLowBits op := by
  intro w hop hlow
  refine decode_of_reserved_field (start := 0) (len := 12) hop hlegal (by rw [hreserved]; rfl) ?_
  rw [Ne, extractLsb'_eq_iff_toNat, pow_zero, Nat.div_one]
  exact hlow

/-! ## The idle word and the display requests (42_requests R170 to R175) -/

theorem exec_nop (s : State) : exec .nop s = .next s := rfl

theorem exec_showTime (s : State) : exec .showTime s = .next (s.request .time) := rfl

theorem exec_showCharge (s : State) : exec .showCharge s = .next (s.request .charge) := rfl

theorem exec_showEmpty (s : State) : exec .showEmpty s = .next (s.request .emptyBattery) := rfl

theorem exec_showTimeAndCharge (s : State) : exec .showTimeAndCharge s = .next (s.request .both) := rfl

/-- Settles O23. -/
theorem nopHasNoEffect : Obligations.NopHasNoEffect :=
  ⟨decode_encode .nop, refusesLowBits_of_reserved (by decide) rfl, exec_nop⟩

/-- Settles O24. -/
theorem displayRequestsStageTheirMode : Obligations.DisplayRequestsStageTheirMode :=
  ⟨⟨decode_encode .showTime, refusesLowBits_of_reserved (by decide) rfl, exec_showTime⟩,
    ⟨decode_encode .showCharge, refusesLowBits_of_reserved (by decide) rfl, exec_showCharge⟩,
    ⟨decode_encode .showEmpty, refusesLowBits_of_reserved (by decide) rfl, exec_showEmpty⟩,
    ⟨decode_encode .showTimeAndCharge, refusesLowBits_of_reserved (by decide) rfl, exec_showTimeAndCharge⟩⟩

/-- Whatever the state, a display request stages one and the same mode, which is not Idle (42_requests R171 to
R174). -/
theorem exists_request_of_mem {i : Instr}
    (h : i ∈ [Instr.showTime, .showCharge, .showEmpty, .showTimeAndCharge]) :
    ∃ mode, mode ≠ .idle ∧ ∀ s, exec i s = .next (s.request mode) := by
  obtain rfl | rfl | rfl | rfl : i = .showTime ∨ i = .showCharge ∨ i = .showEmpty ∨ i = .showTimeAndCharge := by
    simpa using h
  · exact ⟨.time, nofun, exec_showTime⟩
  · exact ⟨.charge, nofun, exec_showCharge⟩
  · exact ⟨.emptyBattery, nofun, exec_showEmpty⟩
  · exact ⟨.both, nofun, exec_showTimeAndCharge⟩

/-- A request replaces one still pending (42_requests R175). -/
@[simp] theorem State.request_request (s : State) (first last : DisplayMode) :
    (s.request first).request last = s.request last := rfl

/-- The TICK after a request shows its mode and is the first of its cycle (41_tick R134, R135). -/
theorem State.tick_of_request {s : State} (hrequest : s.displayNewStatus ≠ .idle) (htps : 0 < s.params.tps) :
    s.tick.displayStatus = s.displayNewStatus ∧ s.tick.displayCounter = 1 ∧ s.tick.displaying = true := by
  obtain ⟨-, -, hcounter, hdisplaying, hlit, -⟩ := State.inCycle_one_of_request hrequest
  obtain ⟨hmode, -⟩ := hlit (by omega)
  exact ⟨hmode, hcounter.trans (Nat.min_eq_left (by omega)), hdisplaying.trans (decide_eq_true (by omega))⟩

/-- Settles O25: the second request overwrites the one field the first wrote, and the TICK latches what it finds
there. -/
theorem lastRequestWins : Obligations.LastRequestWins := by
  intro i j s hi hj htps
  obtain ⟨first, -, hfirst⟩ := exists_request_of_mem hi
  obtain ⟨last, hlast, hsecond⟩ := exists_request_of_mem hj
  have hboth : exec j (s.request first) = .next (s.request last) := by rw [hsecond, State.request_request]
  exact ⟨s.request first, s.request last, (s.request last).tick, hfirst s, hboth, hsecond s, hlast,
    exec_tick _, State.tick_of_request (s := s.request last) hlast htps⟩

/-! ## The accessors (42_requests R176 to R179) -/

theorem exec_getTime (s : State) : exec .getTime s = .next (s.respond (timeWord s.hours s.minutes)) := rfl

theorem exec_setChargeLevel (v : BitVec 8) (s : State) :
    exec (.setChargeLevel v) s = .next { s with chargeLevel := v } := rfl

theorem exec_isDisplayOn (s : State) : exec .isDisplayOn s = .next (s.respond (flagWord s.displaying)) := rfl

theorem timeInRange_iff (hh : BitVec 5) (mm : BitVec 6) :
    timeInRange hh mm = true ↔ hh.toNat ≤ 23 ∧ mm.toNat ≤ 59 := by
  simp [timeInRange]

/-- Settles O26. -/
theorem setTimeWritesHoursAndMinutes : Obligations.SetTimeWritesHoursAndMinutes := by
  refine ⟨fun hh mm => ?_, fun w hop hbit => ?_, fun hh mm s hhours hminutes => ?_, fun hh mm s hrange => ?_⟩
  · rw [← encode_setTime_eq_ofNat]
    exact decode_encode_setTime hh mm
  · exact decode_of_reserved_field hop (by decide) rfl (extractLsb'_one_ne_zero hbit)
  · exact exec_setTime_of_inRange ((timeInRange_iff hh mm).mpr ⟨hhours, hminutes⟩) s
  · have hrefused : ¬ timeInRange hh mm = true := by
      rw [timeInRange_iff]
      omega
    rw [← encode_setTime_eq_ofNat]
    exact exec_setTime_of_not_inRange hrefused s

/-- Settles O27. -/
theorem getTimeRespondsHoursAndMinutes : Obligations.GetTimeRespondsHoursAndMinutes := by
  refine ⟨decode_encode .getTime, refusesLowBits_of_reserved (by decide) rfl, fun s => ?_⟩
  rw [← timeWord_eq_ofNat]
  exact exec_getTime s

/-- Settles O29. -/
theorem setChargeLevelStoresTheByte : Obligations.SetChargeLevelStoresTheByte := by
  refine ⟨fun v => ?_, fun w hop hbits => ?_, exec_setChargeLevel⟩
  · rw [← encode_setChargeLevel_eq_ofNat]
    exact decode_encode_setChargeLevel v
  · exact decode_of_reserved_field hop (by decide) rfl hbits

/-- Settles O30. -/
theorem isDisplayOnRespondsTheFlag : Obligations.IsDisplayOnRespondsTheFlag := by
  refine ⟨decode_encode .isDisplayOn, refusesLowBits_of_reserved (by decide) rfl, fun s => ?_⟩
  rw [← flagWord_eq_ite]
  exact exec_isDisplayOn s

end Machine
end Sys2Proof
end

section
/-! PROOFS. Faults and the tick input (60_exceptions): what a faulted block answers, why an unfaulted one always steps,
and where the tick pulse comes among the events. The lemmas of each part stand before the statements they settle. -/

namespace Sys2Proof.Machine

/-! ## Faults (60_exceptions R200 to R204) -/

/-- A recorded fault decides the step before any event is looked at (60_exceptions R204). -/
theorem step_of_fault {s : State} {r : FaultRecord} (hfault : s.fault = some r) :
    step s = .fault (.halted r) := by
  simp [step, nextEvent, hfault]

/-- With no event presented an unfaulted block waits (notes/assumptions/14.md). -/
theorem step_of_no_event {s : State} (hfault : s.fault = none) (hevents : s.events = []) : step s = .next s := by
  simp [step, nextEvent, hfault, hevents]

/-- A word is answered in a next state whether it is refused or executed (60_exceptions R201). -/
theorem State.exists_takeWord_eq_next (s : State) (p : Port) (w : Word) : ∃ t, s.takeWord p w = .next t := by
  cases hcode : faultOfWord p w with
  | some c => exact ⟨_, State.takeWord_of_faultOfWord_eq_some hcode s⟩
  | none =>
    obtain ⟨t, ht, -⟩ := State.takeWord_of_faultOfWord_eq_none hcode s
    exact ⟨t, ht⟩

/-- No event stops the block by itself (60_exceptions R200). -/
theorem State.exists_takeEvent_eq_next (s : State) (e : Event) : ∃ t, s.takeEvent e = .next t := by
  cases e with
  | command w => exact s.exists_takeWord_eq_next .command w
  | tick => exact ⟨s.tick, exec_tick s⟩
  | reset => exact ⟨s.resetEvent, rfl⟩
  | muxWord u => exact s.exists_takeWord_eq_next .mux u

/-- Settles O6. -/
theorem faultedBlockTakesNoEvent : Obligations.FaultedBlockTakesNoEvent :=
  fun _ _ => step_of_fault

/-- Settles O7: the block waits, or takes its oldest event. -/
theorem unfaultedBlockAlwaysSteps : Obligations.UnfaultedBlockAlwaysSteps := by
  intro s hfault
  cases hevents : s.events with
  | nil => exact ⟨s, step_of_no_event hfault hevents⟩
  | cons e rest =>
    rw [step_of_event hfault hevents]
    exact (s.begin rest).exists_takeEvent_eq_next e

/-! ## The tick input (60_exceptions R206) -/

/-- A pulse that is the oldest event is one TICK. -/
theorem step_of_pulse {s : State} {rest : List Event} (hfault : s.fault = none) (hevents : s.events = .tick :: rest) :
    step s = exec .tick (s.begin rest) :=
  step_of_event hfault hevents

/-- Settles O9: the word is TICK's encoding, so it decodes to the instruction that the pulse runs. -/
theorem tickPulseEqualsTickCommand : Obligations.TickPulseEqualsTickCommand := by
  intro s rest hfault
  have hpulse : step { s with events := .tick :: rest } = exec .tick (s.begin rest) := step_of_pulse hfault rfl
  have hword : step { s with events := .command 0x1000 :: rest } = exec .tick (s.begin rest) :=
    stepRunsTheDecodedInstruction .command 0x1000 .tick _ rest hfault rfl (decode_encode .tick)
  exact ⟨hpulse.trans hword.symm, hpulse⟩

/-- A command word that is the oldest event goes to the command port, with the ports clear. -/
theorem step_of_command {s : State} {w : Word} {rest : List Event} (hfault : s.fault = none)
    (hevents : s.events = .command w :: rest) :
    step s = State.takeWord { s with events := rest, response := none, emitted := [] } .command w :=
  step_of_event hfault hevents

/-- Settles O10: the pulse stands ahead of the word, and TICK leaves the fault and the events to come as they were, so
the second step finds the word. -/
theorem tickIsTakenBeforeSimultaneousCommand : Obligations.TickIsTakenBeforeSimultaneousCommand := by
  intro s w hfault hevents
  have hpresented : (s.present true (some w)).events = [.tick, .command w] := by
    rw [State.present_events, hevents]
    rfl
  have htickFault : (s.begin [.command w]).tick.fault = none := (State.tick_fault _).trans hfault
  obtain ⟨-, -, -, -, -, -, -, -, -, -, -, htickEvents, -⟩ := (s.begin [.command w]).tick_engine
  exact ⟨(s.begin [.command w]).tick, exec_tick _, step_of_pulse hfault hpresented,
    step_of_command htickFault htickEvents⟩

end Sys2Proof.Machine
end

section
/-! PROOFS. Reset and the quiescent state (70_reset_and_hazards): the block that waits, the reset event, and a TICK from
the state that reset and a finished cycle leave. The lemmas of each part stand before the statements they settle. -/

namespace Sys2Proof.Machine

/-! ## Waiting and reset (70_reset_and_hazards R230, R231) -/

/-- Settles O11. -/
theorem waitingBlockIsUnchanged : Obligations.WaitingBlockIsUnchanged :=
  fun _ => step_of_no_event

/-- What taking the event off the list clears, the reset clears again: only the parameters and the events to come are
left of the state before (notes/assumptions/23.md). -/
theorem State.begin_resetEvent (s : State) (rest : List Event) :
    (s.begin rest).resetEvent = { State.resetOf s.params with events := rest } := rfl

/-- Settles O14. -/
theorem resetEventLoadsResetState : Obligations.ResetEventLoadsResetState := by
  intro s rest hfault hevents
  calc step s = (s.begin rest).takeEvent .reset := step_of_event hfault hevents
    _ = .next (s.begin rest).resetEvent := rfl
    _ = .next { State.resetOf s.params with events := rest } := by rw [State.begin_resetEvent]

/-! ## A TICK from the quiescent state (70_reset_and_hazards R231) -/

/-- With no request and its cycle over, the counter rests where it is (41_tick R135). -/
theorem State.counterToShow_of_finished {s : State} (hrequest : s.displayNewStatus = .idle)
    (hcounter : s.displayCounter = 4 * s.params.tps) : s.counterToShow = s.displayCounter := by
  simp [State.counterToShow, hrequest, hcounter]

/-- With no request and its cycle over, the first three steps of TICK advance the clock only (41_tick R131 to R135). -/
theorem State.afterThree_of_finished {s : State} (hrequest : s.displayNewStatus = .idle)
    (hcounter : s.displayCounter = 4 * s.params.tps) (hdisplaying : s.displaying = false) :
    s.afterThree =
      { s with
        hours := s.countTick.hours
        minutes := s.countTick.minutes
        seconds := s.countTick.seconds
        currentTick := if s.currentTick + 1 = s.params.secPeriod then 0 else s.currentTick + 1 } := by
  have hmode : s.modeToShow = s.displayStatus := if_pos hrequest
  have hover : decide ((if s.displayNewStatus = .idle then s.displayCounter else 0) < 4 * s.params.tps) =
      s.displaying := by
    simp [hrequest, hcounter, hdisplaying]
  rw [State.afterThree, hmode, hover, State.counterToShow_of_finished hrequest hcounter, ← hrequest]

/-- A finished cycle stays in quarter 4, whose OFF writes what a dark Idle block already holds (41_tick R142). -/
theorem State.tick_of_quiescent {s : State} (hidle : s.displayStatus = .idle)
    (hrequest : s.displayNewStatus = .idle) (hcounter : s.displayCounter = 4 * s.params.tps)
    (hdisplaying : s.displaying = false) (hdark : s.Dark) :
    s.tick =
      { s with
        hours := s.countTick.hours
        minutes := s.countTick.minutes
        seconds := s.countTick.seconds
        currentTick := if s.currentTick + 1 = s.params.secPeriod then 0 else s.currentTick + 1
        emitted := s.emitted ++ [.off] } := by
  obtain ⟨hseg, han, hdp, hbus⟩ := hdark
  have hoff : quarterOf s.params.tps s.counterToShow = .off := by
    rw [State.counterToShow_of_finished hrequest hcounter]
    exact quarterOf_eq_off (by omega)
  rw [State.tick_turns_off hoff, State.afterThree_of_finished hrequest hcounter hdisplaying]
  simp only [hidle, hseg, han, hdp, hbus]

/-- Settles O16. -/
theorem quiescentTickOnlyAdvancesTheClock : Obligations.QuiescentTickOnlyAdvancesTheClock := by
  intro s _ hidle hrequest hcounter hdisplaying hdark
  exact ⟨_, _, _, _, (exec_tick s).trans <| congrArg _ <|
    State.tick_of_quiescent hidle hrequest hcounter hdisplaying hdark⟩

end Sys2Proof.Machine
end
